-- ==== Sys2Proof/Word.lean ====
section
/-! DEFINITION. The byte of every register, operand and buffer of the block, and the small closed name types that
its parameters mention. -/

namespace Sys2Proof

/-- R8: a byte is 8 bits, bit 0 the least significant. Bit `i` of a group's byte belongs to pin `i` (R42). -/
abbrev Byte := BitVec 8

/-- R5: the two pin groups, numbered 0 and 1. -/
inductive Group where
  | g0
  | g1
  deriving DecidableEq, Repr

/-- R13: the three pull values of a pin. The source gives them no numeric encoding (D7), so neither does the model. -/
inductive Pull where
  | up
  | down
  | none
  deriving DecidableEq, Repr

/-- R200: the three error kinds of the decoder. -/
inductive DecodeError where
  /-- R203: the decode cursor ran past the buffer; defensive, never raised (R67). -/
  | badOffset
  /-- R202: the opcode names no command. -/
  | badInput
  /-- R201: the buffer is shorter than the opcode's payload. -/
  | incomplete
  deriving DecidableEq, Repr

end Sys2Proof
end

