-- ==== Sys2Proof/Config.lean ====
section
/-! DEFINITION. The parameters of R5 and R6: the ones the source fixes and the ones the spec decides have a value
here; the OPEN ones and every `draw` are opaque constants with no body, so no proof can see their value. -/

namespace Sys2Proof.Config

/-! Parameters the source fixes (R5). -/

/-- R5, R18: `TRIG[g]`, a constant that is never written: only group 0's edges lead to the interrupt. -/
def trig : Group → Bool
  | .g0 => true
  | .g1 => false

/-- R5: `DEFAULT_PULL`, the pull of a pin that is made an input. -/
def defaultPull : Pull := .up

/-! Parameters the spec decides (R6); the names are the spec's. -/

/-- R69 (the spec's decision D5, log entry 5): the error kind of decoding zero bytes. -/
def emptyDecodeErr : DecodeError := .incomplete

/-- The spec's decision D15 (log entry 12): an edge that occurs while a transaction is pending is kept. -/
def edgeLatchWhileBusy : Bool := true

/-- R186 (the spec's decision D18, log entry 10): no bus-service step while the signal register is full. -/
def strictPriority : Bool := true

/-- R126 (the spec's decision D19, conflict C1, log entry 11): servicing a transaction does not first clear the
interrupt. -/
def clearOnAnyTransaction : Bool := false

/-- R21 (the spec's decision D20, log entry 13): logical level 1 is a physically high interrupt pin. -/
def intActiveHigh : Bool := true

/-! OPEN parameters and draws: free values. -/

/-- R14, R27 (OPEN, D10, log entry 1): `OUT_RESET[g]`, the reset content of the driven-level latch of group `g`. -/
opaque outReset : Group → Byte

/-- R68 (OPEN, D4, log entry 2): `UNKNOWN_ARITY(op)`, the payload length the decoder expects of an opcode that
names no command, one of 0, 1, 2. -/
opaque unknownArity : Byte → Fin 3

/-- R179 (OPEN, D14, log entry 3): `SELF_INDUCED_EDGES`, whether a level change caused by the block's own command is
an edge. -/
opaque selfInducedEdges : Bool

/-- R22 (OPEN, D3, log entry 22): how far the receive buffer's capacity exceeds 3 bytes. -/
opaque rxExtra : Nat

/-- R22: `RX_MAX`, the most bytes of a write the block captures: any number from 3 on. -/
def rxMax : Nat := rxExtra + 3

/-- R50 (OPEN, D2, log entry 32): `BUS_ADDR`, the 7-bit bus address. No rule reads it: transactions arrive already
addressed to the block. -/
opaque busAddr : BitVec 7

/-- R6, R246 (OPEN, D25, log entry 14): `DEPLOY_MODES`, the pin modes that the start-up glue applies straight after reset:
none, or a byte for each group. -/
opaque deployModes : Option (Byte × Byte)

/-- R9, R16, R122, R123 (`draw`, log entry 4): the n-th free byte of a run. A free bit is a bit of a free byte. -/
opaque freeByte : Nat → Byte

end Sys2Proof.Config
end

