-- ==== Sys2Proof/Syntax.lean ====
section
/-! DEFINITION. The typed command of R80: one constructor per row of the opcode table (R72), with the row's payload
bytes in wire order. -/

namespace Sys2Proof

/-- R80: a decoded command, one of exactly ten variants. -/
inductive Instr where
  /-- 0x01 (R130). -/
  | readIoModes
  /-- 0x02 (R140): the value bytes of group 0 and group 1. -/
  | writeAllOutputs (group0 group1 : Byte)
  /-- 0x03 (R131): the mode bytes of group 0 and group 1; a 1 bit makes the pin an output. -/
  | setIoModes (group0 group1 : Byte)
  /-- 0x11 (R141): the value byte of group 0. -/
  | writeOutputs1 (value : Byte)
  /-- 0x12 (R142): the value byte of group 1. -/
  | writeOutputs2 (value : Byte)
  /-- 0x21 (R150). -/
  | readInputs1
  /-- 0x22 (R151). -/
  | readInputs2
  /-- 0x30 (R160): the pin masks of group 0 and group 1. -/
  | setPullDowns (group0 group1 : Byte)
  /-- 0x31 (R161): the pin masks of group 0 and group 1. -/
  | setPullUps (group0 group1 : Byte)
  /-- 0x32 (R162): the pin masks of group 0 and group 1. -/
  | setPullNone (group0 group1 : Byte)
  deriving DecidableEq, Repr

end Sys2Proof
end

