-- ==== Sys2Proof/WellFormed.lean ====
section
/-! DEFINITION. Well-formedness. Every operand value of every command is legal (R62), so every typed command is
well-formed; what can be malformed is the byte sequence of a write phase (R45, R73), and its checks stand here,
written from the opcode table independently of the decoder. -/

namespace Sys2Proof

/-- R62: no operand value makes a command illegal. One arm per command, so that a new command is looked at here. -/
def Instr.wellFormed : Instr → Bool
  | .readIoModes => true
  | .writeAllOutputs _ _ => true
  | .setIoModes _ _ => true
  | .writeOutputs1 _ => true
  | .writeOutputs2 _ => true
  | .readInputs1 => true
  | .readInputs2 => true
  | .setPullDowns _ _ => true
  | .setPullUps _ _ => true
  | .setPullNone _ _ => true

/-- R60, R72: the opcodes of each format, told apart by the opcode alone. -/
def opcodesF0 : List Byte := [0x01, 0x21, 0x22]

/-- R60, R72: the opcodes with one payload byte. -/
def opcodesF1 : List Byte := [0x11, 0x12]

/-- R60, R72: the opcodes with two payload bytes. -/
def opcodesF2 : List Byte := [0x02, 0x03, 0x30, 0x31, 0x32]

/-- R73: the opcode names no command. -/
def reservedOpcode (op : Byte) : Bool :=
  !(opcodesF0.contains op || opcodesF1.contains op || opcodesF2.contains op)

/-- R45, R60, R70, R73: a write phase carries a command when it is not empty, its byte 0 names one, and the payload
is there; trailing bytes do not matter. -/
def payloadWellFormed : List Byte → Bool
  | [] => false
  | op :: payload =>
    opcodesF0.contains op
      || (opcodesF1.contains op && decide (1 ≤ payload.length))
      || (opcodesF2.contains op && decide (2 ≤ payload.length))

end Sys2Proof
end

