-- ==== Sys2Proof/Decode.lean ====
section
/-! DEFINITION. The command decoder (R60 to R76), total on any byte sequence, and the encoder, its inverse on
commands (R76). -/

namespace Sys2Proof

/-- R63: the payload length of each of the ten opcodes. -/
def knownArity (op : Byte) : Option Nat :=
  match op with
  | 0x01#8 => some 0
  | 0x02#8 => some 2
  | 0x03#8 => some 2
  | 0x11#8 => some 1
  | 0x12#8 => some 1
  | 0x21#8 => some 0
  | 0x22#8 => some 0
  | 0x30#8 => some 2
  | 0x31#8 => some 2
  | 0x32#8 => some 2
  | _ => none

/-- R63, R68: `ARITY(op)`; for an opcode that names no command it is the open parameter `UNKNOWN_ARITY`. -/
def arity (op : Byte) : Nat :=
  match knownArity op with
  | some a => a
  | none => (Config.unknownArity op).val

/-- R62, format F1: the value byte is the first payload byte. Reading a byte that is not there is the defensive
`BadOffset` of R67, which the length check before it excludes. -/
def payload1 (make : Byte → Instr) (payload : List Byte) : Except DecodeError Instr :=
  match payload with
  | v :: _ => .ok (make v)
  | [] => .error .badOffset

/-- R41, R62, format F2: the first payload byte is group 0's value, the second group 1's. `BadOffset` as in
`payload1`. -/
def payload2 (make : Byte → Byte → Instr) (payload : List Byte) : Except DecodeError Instr :=
  match payload with
  | a :: b :: _ => .ok (make a b)
  | _ => .error .badOffset

/-- R64, R72: the command an opcode and its payload name; `BadInput` for an opcode that names none (R66). -/
def assemble (op : Byte) (payload : List Byte) : Except DecodeError Instr :=
  match op with
  | 0x01#8 => .ok .readIoModes
  | 0x02#8 => payload2 .writeAllOutputs payload
  | 0x03#8 => payload2 .setIoModes payload
  | 0x11#8 => payload1 .writeOutputs1 payload
  | 0x12#8 => payload1 .writeOutputs2 payload
  | 0x21#8 => .ok .readInputs1
  | 0x22#8 => .ok .readInputs2
  | 0x30#8 => payload2 .setPullDowns payload
  | 0x31#8 => payload2 .setPullUps payload
  | 0x32#8 => payload2 .setPullNone payload
  | _ => .error .badInput

/-- R64: the decode algorithm with its cursor `cur` (R24): the cursor where decoding ends, and the command or the
error. The length check (R65) comes before the recognition check (R66). -/
def decodeRun (bytes : List Byte) : Nat × Except DecodeError Instr :=
  match bytes with
  | [] => (0, .error Config.emptyDecodeErr)
  | op :: payload =>
    if payload.length < arity op then (1, .error .incomplete)
    else
      match assemble op payload with
      | .ok i => (1 + arity op, .ok i)
      | .error e => (1, .error e)

/-- R64, R71: `decode(B)`, a pure function of the bytes. -/
def decode (bytes : List Byte) : Except DecodeError Instr := (decodeRun bytes).2

/-- R24: where the decode cursor stands when decoding `B` ends. -/
def decodeCursor (bytes : List Byte) : Nat := (decodeRun bytes).1

/-- R72: the opcode byte of a command. -/
def Instr.opcode : Instr → Byte
  | .readIoModes => 0x01
  | .writeAllOutputs _ _ => 0x02
  | .setIoModes _ _ => 0x03
  | .writeOutputs1 _ => 0x11
  | .writeOutputs2 _ => 0x12
  | .readInputs1 => 0x21
  | .readInputs2 => 0x22
  | .setPullDowns _ _ => 0x30
  | .setPullUps _ _ => 0x31
  | .setPullNone _ _ => 0x32

/-- R41, R62: the payload bytes of a command, in wire order. -/
def Instr.payload : Instr → List Byte
  | .readIoModes => []
  | .writeAllOutputs a b => [a, b]
  | .setIoModes a b => [a, b]
  | .writeOutputs1 v => [v]
  | .writeOutputs2 v => [v]
  | .readInputs1 => []
  | .readInputs2 => []
  | .setPullDowns a b => [a, b]
  | .setPullUps a b => [a, b]
  | .setPullNone a b => [a, b]

/-- R76: the encoder: the opcode byte followed by the payload bytes in field order. -/
def encode (i : Instr) : List Byte := i.opcode :: i.payload

/-- R118, R120, R130, R150, R151: the reply length of a read-class command, `none` for a write-class command. The two
classes are disjoint and together all ten commands. -/
def Instr.replyLength : Instr → Option Nat
  | .readIoModes => some 2
  | .writeAllOutputs _ _ => none
  | .setIoModes _ _ => none
  | .writeOutputs1 _ => none
  | .writeOutputs2 _ => none
  | .readInputs1 => some 1
  | .readInputs2 => some 1
  | .setPullDowns _ _ => none
  | .setPullUps _ _ => none
  | .setPullNone _ _ => none

/-- The wire bytes of the opcode-table word `w` of `nbits` bits, first byte least significant, zero above `nbits` up to
the longest command (3 bytes, R60). -/
def tableBytes (nbits w : Nat) : List Byte :=
  [BitVec.ofNat 8 (w % 2 ^ nbits), BitVec.ofNat 8 (w % 2 ^ nbits / 2 ^ 8), BitVec.ofNat 8 (w % 2 ^ nbits / 2 ^ 16)]

/-- The command the decoder reads from an opcode-table word laid out on the wire. -/
def decodeTableWord (nbits w : Nat) : Option Instr :=
  match decode (tableBytes nbits w) with
  | .ok i => some i
  | .error _ => none

end Sys2Proof
end

