-- ==== Sys2Proof/Machine/State.lean ====
section
/-! DEFINITION. The state of the block (R10), the inputs of its three interfaces (R7), the observations a
transaction leaves, and the reset state (R27). -/

namespace Sys2Proof.Machine

/-- R15: what the outside world does to a pin: drives it low, drives it high, or does not drive it (Z). -/
inductive Ext where
  | low
  | high
  | z
  deriving DecidableEq, Repr

/-- R10: the registers of one pin group. -/
structure PinGroup where
  /-- R11, R12: `MODE[g]`; bit 1 is output. The only direction state. -/
  mode : Byte
  /-- R14: `OUT[g]`, the driven-level latch. -/
  out : Byte
  /-- R13: `PULL[g][i]`. -/
  pull : Vector Pull 8
  /-- R19: `EP[g]`, the edge-pending latch. -/
  ep : Bool
  deriving DecidableEq, Repr

/-- R200: the errors a transaction step can end with. They change no cell of the block and stop nothing (R208, R215). -/
inductive DeviceError where
  /-- R204: the payload did not decode. -/
  | failedToParseCmd (e : DecodeError)
  /-- R205: a read-class command arrived on a Write. -/
  | invalidWriteCmd (c : Instr)
  /-- R206: a write-class command arrived on a WriteRead. -/
  | invalidWriteReadCmd (c : Instr)
  deriving DecidableEq, Repr

/-- R116: the three kinds of bus transaction; `count` is the number of bytes the host clocks out. -/
inductive Transaction where
  | write (bytes : List Byte)
  | writeRead (bytes : List Byte) (count : Nat)
  | read (count : Nat)
  deriving DecidableEq, Repr

/-- R116: the two handlers that run a decoded command (the bare-read handler decodes none). -/
inductive Handler where
  /-- R117: `handle_write_command`. -/
  | write
  /-- R119: `handle_write_read_command`. -/
  | writeRead
  deriving DecidableEq, Repr

/-- What the last transaction came to (R123, R207, R215). The block keeps no such cell: it is the result of the
transaction step, held here so that statements can speak of it (log entry 21). -/
inductive TxResult where
  /-- No transaction has been serviced since reset. -/
  | none
  | ok
  | error (e : DeviceError)
  /-- R207: the transaction was aborted on the bus and reached no handler. -/
  | aborted
  deriving DecidableEq, Repr

/-- R170: which agent moves next, with the choice it makes where the spec leaves one (log entry 15). -/
inductive Turn where
  /-- R175: the interrupt-line driver. -/
  | drv
  /-- R181: the bus service loop resolves the edge wait of group `g`. -/
  | edge (g : Group)
  /-- R183: the bus service loop services the pending transaction. -/
  | transaction
  /-- R183: the host issues a transaction. -/
  | issue (t : Transaction)
  /-- R207: the pending transaction is aborted on the bus. -/
  | abort
  /-- R178: the environment drives the 16 pins so; `noise g` says whether it also makes an edge of a pin of group `g`
  that floats. -/
  | env (ext0 ext1 : Vector Ext 8) (noise0 noise1 : Bool)
  /-- R246: the start-up glue applies the deployment default. -/
  | glue
  /-- R188: every agent is parked. -/
  | idle
  deriving DecidableEq, Repr

/-- The machine. `MODE`, `OUT`, `PULL`, `EP`, `SIG`, `INT`, `RX`, `TX`, `cur` are the cells of R10; `TRIG` is the
constant `Config.trig`. -/
structure State where
  /-- R10: pin group 0. -/
  grp0 : PinGroup
  /-- R10: pin group 1. -/
  grp1 : PinGroup
  /-- R20: the signal register: `none` is `SIG.full = 0`, `some v` is `SIG.full = 1` with `SIG.val = v`. -/
  sig : Option Bool
  /-- R21: the level last driven on the interrupt pin. -/
  int : Bool
  /-- R22: the receive buffer; its length is `RXLEN`. -/
  rx : List Byte
  /-- R23: byte 0 of the reply buffer. -/
  tx0 : Byte
  /-- R23: byte 1 of the reply buffer. -/
  tx1 : Byte
  /-- R23: `TXLEN`, the number of valid reply bytes. -/
  txLen : Nat
  /-- R24: the decode cursor. -/
  cur : Nat
  /-- R116: the handler of the transaction being serviced. -/
  handler : Handler
  /-- R123: the result of the last transaction step. -/
  result : TxResult
  /-- R122: the bytes the host received in the last transaction. -/
  reply : List Byte
  /-- R183: the pending transaction. -/
  pending : Option Transaction
  /-- R15: what the environment drives on the pins of group 0. -/
  ext0 : Vector Ext 8
  /-- R15: what the environment drives on the pins of group 1. -/
  ext1 : Vector Ext 8
  /-- R246: the deployment default the glue has yet to apply. -/
  glue : Option (Byte × Byte)
  /-- R184: the turns the agents take next, first first: the scheduler's and the outside world's choices. -/
  agenda : List Turn
  /-- R16: how many free values have been drawn. -/
  draws : Nat
  deriving DecidableEq, Repr

/-- Why the machine stops with a fault: it never does. No error of the block is fatal (R208), a parked agent is no
fault (R188), and the platform's fatal hardware faults are outside the block (R4, log entry 30). Safe: with no
constructor no step can claim a fault. -/
inductive Fault where
  deriving DecidableEq, Repr

/-- Why an instruction is refused. -/
inductive Refusal where
  /-- Raised only by an arm of `exec` whose command has no meaning yet; no arm is left so. Safe. -/
  | notModelled (mnemonic : String)
  deriving DecidableEq, Repr

/-- The registers of a pin group at reset (R27): all pins inputs, all pulled up, no edge latched, and an open content of
the driven-level latch (`OUT_RESET`, log entry 1). -/
def PinGroup.reset (g : Group) : PinGroup where
  mode := 0x00
  out := Config.outReset g
  pull := Vector.replicate 8 Config.defaultPull
  ep := false

/-- R27, R242: the machine right after reset, with nothing driving the pins (log entry 16), no transaction issued, and the
deployment default, if there is one, still to be applied (R246, log entry 14). -/
def State.reset : State where
  grp0 := PinGroup.reset .g0
  grp1 := PinGroup.reset .g1
  sig := none
  int := false
  rx := []
  tx0 := 0x00
  tx1 := 0x00
  txLen := 0
  cur := 0
  handler := .write
  result := .none
  reply := []
  pending := none
  ext0 := Vector.replicate 8 .z
  ext1 := Vector.replicate 8 .z
  glue := Config.deployModes
  agenda := []
  draws := 0

end Sys2Proof.Machine
end

