-- ==== Sys2Proof/Machine/Operands.lean ====
section
/-! DEFINITION. Bytes and pins: the receive buffer's bytes, the bitwise select, the sampled and the multiplexed level,
and the primitives of one pin group (R90 to R94) in their net-effect form, which R97 calls exact. -/

namespace Sys2Proof.Machine

/-- R22: the first `n` bytes of a write phase, the ones the receive buffer captures. -/
def captureBytes : List Byte → Nat → List Byte
  | [], _ => []
  | _ :: _, 0 => []
  | b :: bytes, n + 1 => b :: captureBytes bytes n

/-- R98: the select `(a & m) | (b & ~m)`: bit i is `a`'s where `m` has a 1 and `b`'s where it has a 0. -/
def select (m a b : Byte) : Byte := (a &&& m) ||| (b &&& ~~~m)

/-- R16: the sampled level of one pin from what drives it, its pull, and a free bit for a floating line. That an
undriven pin under pull-down reads 0 is the spec's general knowledge G1 (log entry 8). -/
def sampledBit (e : Ext) (p : Pull) (free : Bool) : Bool :=
  match e with
  | .low => false
  | .high => true
  | .z =>
    match p with
    | .up => true
    | .down => false
    | .none => free

/-- R16: `SAMPLED(g)`: bit i is the sampled level of pin i; floating pins take their bit of `free`. -/
def sampled (p : PinGroup) (ext : Vector Ext 8) (free : Byte) : Byte :=
  BitVec.ofFnLE fun i : Fin 8 => sampledBit ext[i] p.pull[i] (free.getLsbD i)

/-- R17: `LEVEL(g)`: the driven level of the output pins, the sampled level of the input pins. What drives an output
pin from outside is not looked at (R15, D13, log entry 27). -/
def level (p : PinGroup) (ext : Vector Ext 8) (free : Byte) : Byte :=
  select p.mode p.out (sampled p ext free)

/-- R90: `set_pin_modes(g, m)`: `MODE[g] <- m`, and the default pull on every pin whose bit of `m` is 0. `OUT[g]` is
kept (R99, log entry 7). -/
def PinGroup.setPinModes (m : Byte) (p : PinGroup) : PinGroup :=
  { p with
    mode := m
    pull := Vector.ofFn fun i : Fin 8 => if m.getLsbD i then p.pull[i] else Config.defaultPull }

/-- R91: `get_pin_modes(g)`. -/
def PinGroup.getPinModes (p : PinGroup) : Byte := p.mode

/-- R92: `write_pins(g, v)`: the output pins take their bit of `v`; the bits of input pins are ignored. -/
def PinGroup.writePins (v : Byte) (p : PinGroup) : PinGroup :=
  { p with out := select p.mode v p.out }

/-- R94: `set_pin_pulls(g, mask, q)`: the pins whose mask bit is 1 take the pull `q`, whatever their direction. -/
def PinGroup.setPinPulls (mask : Byte) (q : Pull) (p : PinGroup) : PinGroup :=
  { p with pull := Vector.ofFn fun i : Fin 8 => if mask.getLsbD i then q else p.pull[i] }

end Sys2Proof.Machine
end

