-- ==== Sys2Proof/Machine/Flags.lean ====
section
/-! DEFINITION. The one-bit status cells: the signal register (R171, R172), and what counts as an edge of a pin and sets
the latches `EP[g]` (R177 to R179). The block has no arithmetic flags (R25). -/

namespace Sys2Proof.Machine

/-- R171: `signal(v)`: overwrite the signal register; it never waits and never fails. -/
def State.signal (v : Bool) (s : State) : State := { s with sig := some v }

/-- R172: `wait()`: consume the signal register; not enabled while it is empty. -/
def State.wait (s : State) : Option (Bool × State) :=
  match s.sig with
  | some v => some (v, { s with sig := none })
  | none => none

/-- R17: the level of pin `i` where it is defined: `none` for an input pin that nothing drives and nothing pulls. -/
def definedLevel (p : PinGroup) (ext : Vector Ext 8) (i : Fin 8) : Option Bool :=
  if p.mode.getLsbD i then some (p.out.getLsbD i)
  else
    match ext[i], p.pull[i] with
    | .low, _ => some false
    | .high, _ => some true
    | .z, .up => some true
    | .z, .down => some false
    | .z, .none => none

/-- R178: some pin of the group is an input with no level of its own. -/
def floating (p : PinGroup) (ext : Vector Ext 8) : Bool :=
  (List.finRange 8).any fun i => (definedLevel p ext i).isNone

/-- R177: pin `i` certainly has an edge between two situations: its level is defined in both and differs. -/
def movedPin (p p' : PinGroup) (ext ext' : Vector Ext 8) (i : Fin 8) : Bool :=
  match definedLevel p ext i, definedLevel p' ext' i with
  | some a, some b => a != b
  | _, _ => false

/-- R179, D11 (log entry 3): pin `i` begins or ceases to float between two situations, so whether its level changes
is a free bit. -/
def blurredPin (p p' : PinGroup) (ext ext' : Vector Ext 8) (i : Fin 8) : Bool :=
  (definedLevel p ext i).isSome != (definedLevel p' ext' i).isSome

/-- R177, R178: some pin of the group certainly has an edge. -/
def moved (p p' : PinGroup) (ext ext' : Vector Ext 8) : Bool :=
  (List.finRange 8).any (movedPin p p' ext ext')

/-- R179: the level of the group changes for some pin, where `free` settles the pins that begin or cease to float. -/
def movedWith (free : Byte) (p p' : PinGroup) (ext : Vector Ext 8) : Bool :=
  (List.finRange 8).any fun i => movedPin p p' ext ext i || (blurredPin p p' ext ext i && free.getLsbD i)

/-- R178: an environment step takes the drivers of a group from `ext` to `ext'`: the latch is set by an edge of a pin,
and, if the environment says so (`noise`), by a floating pin. -/
def envLatches (noise : Bool) (p : PinGroup) (ext ext' : Vector Ext 8) : Bool :=
  moved p p ext ext' || (noise && (floating p ext || floating p ext'))

/-- R178, R179: set the edge-pending latch where `edge` holds; a set latch stays set. -/
def PinGroup.latch (edge : Bool) (p : PinGroup) : PinGroup := { p with ep := p.ep || edge }

/-- R95: `wait_for_any_edge(g)`: enabled only when the latch is set, which it clears; it says nothing of which pin
changed or in which direction. -/
def PinGroup.waitForAnyEdge (p : PinGroup) : Option PinGroup :=
  if p.ep then some { p with ep := false } else none

end Sys2Proof.Machine
end

