-- ==== Sys2Proof/Machine/Ops.lean ====
section
/-! DEFINITION. The named operations on the state: the pin groups and the device layer (R110 to R114), the reply
buffer (R23), ending a step with an error (R123, R215), the reply step (R122), and the pieces of the transaction-win
step (R183) around the handler. -/

namespace Sys2Proof.Machine

/-! Pin groups. -/

/-- R110: the registers of group `g`. -/
def State.grp (s : State) : Group → PinGroup
  | .g0 => s.grp0
  | .g1 => s.grp1

/-- What the environment drives on the pins of group `g` (R15). -/
def State.ext (s : State) : Group → Vector Ext 8
  | .g0 => s.ext0
  | .g1 => s.ext1

/-- Replace the registers of group `g`. -/
def State.setGrp (g : Group) (p : PinGroup) (s : State) : State :=
  match g with
  | .g0 => { s with grp0 := p }
  | .g1 => { s with grp1 := p }

/-- R90 to R94: apply a pin-group primitive to group `g`. -/
def State.onGrp (g : Group) (f : PinGroup → PinGroup) (s : State) : State := s.setGrp g (f (s.grp g))

/-- R93: `read_pins(g)`: `LEVEL(g)`, all eight pins sampled at once. It writes no register; it uses one free byte, for
the floating pins. -/
def State.readPins (g : Group) (s : State) : Byte × State :=
  (level (s.grp g) (s.ext g) (Config.freeByte s.draws), { s with draws := s.draws + 1 })

/-- R21: the level of the interrupt pin. -/
def State.intPin (s : State) : Bool := if Config.intActiveHigh then s.int else !s.int

/-! The device layer: group 0 takes byte 0, group 1 byte 1 (R110). -/

/-- R112: `Device.write([a, b])`. -/
def State.deviceWrite (a b : Byte) (s : State) : State :=
  (s.onGrp .g0 (PinGroup.writePins a)).onGrp .g1 (PinGroup.writePins b)

/-- R113: `Device.set_pin_modes([a, b])`. -/
def State.deviceSetPinModes (a b : Byte) (s : State) : State :=
  (s.onGrp .g0 (PinGroup.setPinModes a)).onGrp .g1 (PinGroup.setPinModes b)

/-- R113: `Device.get_pin_modes()`. -/
def State.deviceGetPinModes (s : State) : Byte × Byte := ((s.grp .g0).getPinModes, (s.grp .g1).getPinModes)

/-- R114: `Device.set_pin_pulls([a, b], q)`. -/
def State.deviceSetPinPulls (a b : Byte) (q : Pull) (s : State) : State :=
  (s.onGrp .g0 (PinGroup.setPinPulls a q)).onGrp .g1 (PinGroup.setPinPulls b q)

/-- R111: `Device.read()`: both groups, group 0 first. -/
def State.deviceRead (s : State) : (Byte × Byte) × State :=
  let r0 := s.readPins .g0
  let r1 := r0.2.readPins .g1
  ((r0.1, r1.1), r1.2)

/-! The results of a handler. -/

/-- R119: a one-byte reply: `TX[0]`, `TXLEN = 1`. -/
def State.putReply1 (b : Byte) (s : State) : State := { s with tx0 := b, txLen := 1 }

/-- R119, R121: a two-byte reply: byte 0 is group 0's (R41), `TXLEN = 2`. -/
def State.putReply2 (a b : Byte) (s : State) : State := { s with tx0 := a, tx1 := b, txLen := 2 }

/-- R117: the handler ends with `ok`. -/
def State.accept (s : State) : State := { s with result := .ok }

/-- R9, R123, R215: a handler raises: the step ends with the error as its result and no cell of the block changes.
This is all there is to taking an exception here: nothing is saved, no mode changes, nothing is vectored. The
return from it is the end of the step (R217), `State.endTransaction`. -/
def State.raise (e : DeviceError) (s : State) : State := { s with result := .error e }

/-- R117, R118: a write-class command: on a Write it runs, on a WriteRead it is `InvalidWriteReadCmd`. -/
def State.writeClass (c : Instr) (run : State → State) (s : State) : State :=
  match s.handler with
  | .write => (run s).accept
  | .writeRead => s.raise (.invalidWriteReadCmd c)

/-- R119, R120: a read-class command: on a WriteRead it runs, on a Write it is `InvalidWriteCmd`. -/
def State.readClass (c : Instr) (run : State → State) (s : State) : State :=
  match s.handler with
  | .writeRead => (run s).accept
  | .write => s.raise (.invalidWriteCmd c)

/-! The transaction-win step around the handler (R183). -/

/-- R116: the number of bytes the host clocks out; a Write has no read phase. -/
def Transaction.count : Transaction → Nat
  | .write _ => 0
  | .writeRead _ k => k
  | .read k => k

/-- R126, R183: the optional clear at the start of every transaction. -/
def State.startTransaction (s : State) : State :=
  if Config.clearOnAnyTransaction then s.signal false else s

/-- R22, R24, R183: load the write phase into `RX` for the handler `h`, and leave the cursor where decoding ends. -/
def State.loadCommand (h : Handler) (bytes : List Byte) (s : State) : State :=
  { s with
    handler := h
    rx := captureBytes bytes Config.rxMax
    cur := decodeCursor (captureBytes bytes Config.rxMax) }

/-- R23, R123: the reply bytes that are valid after the handler: `TX[0 .. TXLEN-1]`, none after an error. -/
def State.validReply (s : State) : List Byte :=
  match s.result with
  | .ok => [s.tx0, s.tx1].take s.txLen
  | .none => []
  | .error _ => []
  | .aborted => []

/-- R122, R123: `n` free bytes, drawn from the `d`-th on. -/
def freeBytes (d n : Nat) : List Byte := (List.range n).map fun j => Config.freeByte (d + j)

/-- R122, R123: the reply step: the host clocks out `k` bytes and gets the valid bytes first, then free ones. -/
def State.sendReply (k : Nat) (s : State) : State :=
  { s with
    reply := s.validReply.take k ++ freeBytes s.draws (k - s.validReply.length)
    draws := s.draws + (k - s.validReply.length) }

/-- R179: where `armed` holds, latch an edge for each group whose level the pin-group writes from `before` to `s` changed.
Two free bytes settle the pins that began or ceased to float. -/
def State.latchSelfInduced (armed : Bool) (before s : State) : State :=
  { s with
    grp0 := s.grp0.latch (movedWith (Config.freeByte s.draws) before.grp0 s.grp0 s.ext0 && armed)
    grp1 := s.grp1.latch (movedWith (Config.freeByte (s.draws + 1)) before.grp1 s.grp1 s.ext1 && armed)
    draws := s.draws + 2 }

/-- R183, R217: the end of a transaction step that began in `before` and whose handler left `s`: reply, self-induced
edges, and the transaction is no longer pending. -/
def State.endTransaction (t : Transaction) (before s : State) : State :=
  { (State.latchSelfInduced Config.selfInducedEdges before (s.sendReply t.count)) with pending := none }

/-- R186: a step of the bus service loop is enabled only while the signal register is empty. -/
def State.bslEnabled (s : State) : Bool := !Config.strictPriority || s.sig.isNone

end Sys2Proof.Machine
end

