-- ==== Sys2Proof/Machine/Inputs.lean ====
section
/-! DEFINITION. The input commands `ReadInputs1` and `ReadInputs2`, and the bare read `BusRead`, which has no opcode. -/

namespace Sys2Proof.Machine

/-- R150: `TX[0] <- read_pins(0)`, then `signal(0)` (order and unconditional clear: D27, D28, log entry 26). -/
def execReadInputs1 (s : State) : Host.Outcome State Fault Refusal :=
  .next (s.readClass .readInputs1 fun s => ((s.readPins .g0).2.putReply1 (s.readPins .g0).1).signal false)

/-- R151: `TX[0] <- read_pins(1)`; the interrupt is not cleared. -/
def execReadInputs2 (s : State) : Host.Outcome State Fault Refusal :=
  .next (s.readClass .readInputs2 fun s => (s.readPins .g1).2.putReply1 (s.readPins .g1).1)

/-- R121, R152: the bare-read handler: `signal(0)`, then the levels of both groups. It decodes nothing and cannot
fail. -/
def State.busRead (s : State) : State :=
  let r := (s.signal false).deviceRead
  (r.2.putReply2 r.1.1 r.1.2).accept

end Sys2Proof.Machine
end

