-- ==== Sys2Proof/Machine/Agents.lean ====
section
/-! DEFINITION. The agents and their steps (R170): the interrupt-line driver, the bus service loop's edge-win step and
the part of its transaction-win step before the handler, the host, the environment, the start-up glue; and which of them moves
next (R180, R184, R186). A turn whose agent is not enabled passes: a parked agent changes nothing (R188, R225). -/

namespace Sys2Proof.Machine

/-- R175, R176: the interrupt-line driver: consume the signal register and drive the interrupt pin, in one step. -/
def State.drvStep (s : State) : State :=
  match s.wait with
  | some (v, s') => { s' with int := v }
  | none => s

/-- R181, R182: the bus service loop resolves the edge wait of group `g`; only a group that triggers the interrupt
signals. -/
def State.edgeWin (g : Group) (s : State) : State :=
  if s.bslEnabled then
    match (s.grp g).waitForAnyEdge with
    | some p => if Config.trig g then (s.setGrp g p).signal true else s.setGrp g p
    | none => s
  else s

/-- R183: the host issues a transaction, unless one is still pending. -/
def State.hostIssue (t : Transaction) (s : State) : State :=
  match s.pending with
  | none => { s with pending := some t }
  | some _ => s

/-- R207 (the spec's decision D23, log entry 17): a pending transaction is aborted on the bus: it reaches no handler and
changes no cell of the block. That the observation `reply` is then empty is the model's own choice (DESIGN CHOICE, log entry
37): the spec says nothing of the bytes the host has received from a Read or WriteRead before the abort. -/
def State.hostAbort (s : State) : State :=
  match s.pending with
  | none => s
  | some _ => { s with pending := none, result := .aborted, reply := [] }

/-- R178: the environment drives the pins anew; edges are latched whether or not a transaction is pending (R185, D15,
log entry 12). -/
def State.envStep (ext0 ext1 : Vector Ext 8) (noise0 noise1 : Bool) (s : State) : State :=
  let kept := Config.edgeLatchWhileBusy || s.pending.isNone
  { s with
    grp0 := s.grp0.latch (kept && envLatches noise0 s.grp0 s.ext0 ext0)
    grp1 := s.grp1.latch (kept && envLatches noise1 s.grp1 s.ext1 ext1)
    ext0 := ext0
    ext1 := ext1 }

/-- R246: the start-up glue applies the deployment default, with exactly the effect of `SetIoModes` (R131), the edges that
its own level changes make (R179) among it. -/
def State.glueStep (s : State) : State :=
  match s.glue with
  | none => s
  | some (m0, m1) =>
    { (State.latchSelfInduced Config.selfInducedEdges s (s.deviceSetPinModes m0 m1)) with glue := none }

/-- What the transaction-win step finds (R116, R183). -/
inductive Service where
  /-- Not enabled: no transaction is pending, or the driver has precedence (R186). -/
  | parked
  /-- The handler has already run to its end: a bare read, or a decode failure. -/
  | handled (t : Transaction) (s : State)
  /-- The payload decoded to a command, which its handler now runs. -/
  | command (t : Transaction) (i : Instr) (s : State)
  deriving DecidableEq, Repr

/-- R117, R119, R204: load the write phase and decode it once, at offset 0; a decode failure is wrapped. -/
def State.decodePhase (t : Transaction) (h : Handler) (bytes : List Byte) (s : State) : Service :=
  match decode (s.loadCommand h bytes).rx with
  | .ok i => .command t i (s.loadCommand h bytes)
  | .error e => .handled t ((s.loadCommand h bytes).raise (.failedToParseCmd e))

/-- R116, R183: service the pending transaction up to the handler its kind selects. -/
def State.service (s : State) : Service :=
  if s.bslEnabled then
    match s.pending with
    | none => .parked
    | some (.write bytes) => s.startTransaction.decodePhase (.write bytes) .write bytes
    | some (.writeRead bytes k) => s.startTransaction.decodePhase (.writeRead bytes k) .writeRead bytes
    | some (.read k) => .handled (.read k) s.startTransaction.busRead
  else .parked

/-- A turn that needs no decoded command. -/
def State.perform (turn : Turn) (s : State) : State :=
  match turn with
  | .drv => s.drvStep
  | .edge g => s.edgeWin g
  | .transaction => s
  | .issue t => s.hostIssue t
  | .abort => s.hostAbort
  | .env ext0 ext1 noise0 noise1 => s.envStep ext0 ext1 noise0 noise1
  | .glue => s.glueStep
  | .idle => s

/-- R184: the edge wait to resolve, where a free bit decides between two latched groups. -/
def State.edgeChoice (s : State) : Turn :=
  if s.grp0.ep && s.grp1.ep then
    if (Config.freeByte s.draws).getLsbD 0 then .edge .g0 else .edge .g1
  else if s.grp0.ep then .edge .g0
  else .edge .g1

/-- R180, R184, R186, R188: the block's own next step while nothing outside moves: the driver first; then the bus service
loop, where a free bit decides between an edge and a transaction; or every agent is parked. -/
def State.ownTurn (s : State) : Turn :=
  if s.sig.isSome then .drv
  else
    match s.pending.isSome, s.grp0.ep || s.grp1.ep with
    | true, false => .transaction
    | false, true => s.edgeChoice
    | true, true => if (Config.freeByte s.draws).getLsbD 1 then .transaction else s.edgeChoice
    | false, false => .idle

/-- Which turn comes next (log entry 15): the glue's, if it has yet to act (R246); else the first of the agenda; else the
block's own. -/
def State.nextTurn (s : State) : Turn × State :=
  match s.glue with
  | some _ => (.glue, s)
  | none =>
    match s.agenda with
    | turn :: agenda => (turn, { s with agenda := agenda })
    | [] =>
      match s.ownTurn with
      | .idle => (.idle, s)
      | turn => (turn, { s with draws := s.draws + 1 })

/-- The transaction that carries the bytes of a command on the kind of transaction that accepts it (R118, R120); bytes
that are no command go as a Write. -/
def transactionFor (bytes : List Byte) : Transaction :=
  match decode bytes with
  | .ok i =>
    match i.replyLength with
    | some k => .writeRead bytes k
    | none => .write bytes
  | .error _ => .write bytes

end Sys2Proof.Machine
end

