-- ==== Sys2Proof/Machine/Modes.lean ====
section
/-! DEFINITION. The mode commands: `ReadIoModes` and `SetIoModes`. -/

namespace Sys2Proof.Machine

/-- R130: reply with `MODE[0]`, `MODE[1]`; nothing else is touched, and the interrupt is not cleared. -/
def execReadIoModes (s : State) : Host.Outcome State Fault Refusal :=
  .next (s.readClass .readIoModes fun s => s.putReply2 s.deviceGetPinModes.1 s.deviceGetPinModes.2)

/-- R131: set the modes of both groups; every pin whose bit is 0 gets the default pull. -/
def execSetIoModes (group0 group1 : Byte) (s : State) : Host.Outcome State Fault Refusal :=
  .next (s.writeClass (.setIoModes group0 group1) (State.deviceSetPinModes group0 group1))

end Sys2Proof.Machine
end

