-- ==== Sys2Proof/Machine/Outputs.lean ====
section
/-! DEFINITION. The output commands: `WriteAllOutputs`, `WriteOutputs1`, `WriteOutputs2`. -/

namespace Sys2Proof.Machine

/-- R140: write the output pins of both groups. -/
def execWriteAllOutputs (group0 group1 : Byte) (s : State) : Host.Outcome State Fault Refusal :=
  .next (s.writeClass (.writeAllOutputs group0 group1) (State.deviceWrite group0 group1))

/-- R141: write the output pins of group 0 (the spec's reading D8, log entry 9). -/
def execWriteOutputs1 (value : Byte) (s : State) : Host.Outcome State Fault Refusal :=
  .next (s.writeClass (.writeOutputs1 value) (State.onGrp .g0 (PinGroup.writePins value)))

/-- R142: write the output pins of group 1 (the spec's reading D8, log entry 9). -/
def execWriteOutputs2 (value : Byte) (s : State) : Host.Outcome State Fault Refusal :=
  .next (s.writeClass (.writeOutputs2 value) (State.onGrp .g1 (PinGroup.writePins value)))

end Sys2Proof.Machine
end

