-- ==== Sys2Proof/Machine/Pulls.lean ====
section
/-! DEFINITION. The pull commands: `SetPullDowns`, `SetPullUps`, `SetPullNone`. -/

namespace Sys2Proof.Machine

/-- R160: pull-down on the pins the masks select. -/
def execSetPullDowns (group0 group1 : Byte) (s : State) : Host.Outcome State Fault Refusal :=
  .next (s.writeClass (.setPullDowns group0 group1) (State.deviceSetPinPulls group0 group1 .down))

/-- R161: pull-up on the pins the masks select. -/
def execSetPullUps (group0 group1 : Byte) (s : State) : Host.Outcome State Fault Refusal :=
  .next (s.writeClass (.setPullUps group0 group1) (State.deviceSetPinPulls group0 group1 .up))

/-- R162: no pull on the pins the masks select. -/
def execSetPullNone (group0 group1 : Byte) (s : State) : Host.Outcome State Fault Refusal :=
  .next (s.writeClass (.setPullNone group0 group1) (State.deviceSetPinPulls group0 group1 .none))

end Sys2Proof.Machine
end

