-- ==== Sys2Proof/Machine/Dispatch.lean ====
section
/-! DEFINITION. Dispatch on the decoded command (R117, R119, R125): one arm per row of the opcode table. The handler's
class check stands in each meaning (`State.readClass`, `State.writeClass`). -/

namespace Sys2Proof.Machine

def exec (i : Instr) (s : State) : Host.Outcome State Fault Refusal :=
  match i with
  | .readIoModes => Sys2Proof.Machine.execReadIoModes s
  | .writeAllOutputs group0 group1 => Sys2Proof.Machine.execWriteAllOutputs group0 group1 s
  | .setIoModes group0 group1 => Sys2Proof.Machine.execSetIoModes group0 group1 s
  | .writeOutputs1 value => Sys2Proof.Machine.execWriteOutputs1 value s
  | .writeOutputs2 value => Sys2Proof.Machine.execWriteOutputs2 value s
  | .readInputs1 => Sys2Proof.Machine.execReadInputs1 s
  | .readInputs2 => Sys2Proof.Machine.execReadInputs2 s
  | .setPullDowns group0 group1 => Sys2Proof.Machine.execSetPullDowns group0 group1 s
  | .setPullUps group0 group1 => Sys2Proof.Machine.execSetPullUps group0 group1 s
  | .setPullNone group0 group1 => Sys2Proof.Machine.execSetPullNone group0 group1 s

end Sys2Proof.Machine
end

