-- ==== Sys2Proof/Machine/Step.lean ====
section
/-! DEFINITION. One step of the machine: one turn of one agent (R170, R180), and the placing of a command where the
next step fetches it. -/

namespace Sys2Proof.Machine

/-- R183: the transaction-win step: the pending transaction is serviced by the handler its kind selects, a decoded command
by `exec`, and the transaction ends with its reply. -/
def transactionStep (s : State) : Host.Outcome State Fault Refusal :=
  match s.service with
  | .parked => .next s
  | .handled t s' => .next (State.endTransaction t s s')
  | .command t i s' =>
    match exec i s' with
    | .next s'' => .next (State.endTransaction t s s'')
    | .fault r => .fault r
    | .refused r => .refused r

/-- One step: the next turn is taken. -/
def step (s : State) : Host.Outcome State Fault Refusal :=
  match s.nextTurn with
  | (.transaction, s') => transactionStep s'
  | (turn, s') => .next (s'.perform turn)

/-- The state in which the very next step fetches the opcode-table word `w` of `nbits` bits as a command and runs it (log
entry 24): the word's bytes are the write phase of the pending transaction, and the transaction-win step is next and enabled. -/
def State.withFetchWord (s : State) (nbits w : Nat) : State :=
  { s with
    pending := some (transactionFor (tableBytes nbits w))
    agenda := .transaction :: s.agenda
    sig := none
    glue := none }

end Sys2Proof.Machine
end

