-- ==== Sys2Proof/Safety.lean ====
section
/-! DEFINITION. The terms in which claims speak of runs: the invariant of the transient cells, what a pin must read,
a quiet block, the work a block has left, and the pin-by-pin form of the pin-group primitives. -/

namespace Sys2Proof.Machine

/-- R22, R23, R24: the decode cursor is at most 3 and never exceeds `RXLEN`; the receive buffer holds at most `RX_MAX`
bytes; `TXLEN` is 0, 1 or 2. -/
def State.Inv (s : State) : Prop :=
  s.cur ≤ 3 ∧ s.cur ≤ s.rx.length ∧ s.rx.length ≤ Config.rxMax ∧ s.txLen ≤ 2

/-- R16, R17: `v` is a level that pin `i` may read. An output reads its driven level; a driven input its driver; an
undriven input its pull; an undriven input without a pull may read either level. -/
def PinReads (p : PinGroup) (ext : Vector Ext 8) (i : Fin 8) (v : Bool) : Prop :=
  if p.mode.getLsbD i then v = p.out.getLsbD i
  else
    match ext[i] with
    | .low => v = false
    | .high => v = true
    | .z =>
      match p.pull[i] with
      | .up => v = true
      | .down => v = false
      | .none => True

/-- R93: `b` is a byte the group may read. -/
def GroupReads (p : PinGroup) (ext : Vector Ext 8) (b : Byte) : Prop :=
  ∀ i : Fin 8, PinReads p ext i (b.getLsbD i)

/-- R47, R52: the configuration of a pin group, what the commands write: all of it but the edge latch. -/
def PinGroup.SameConfig (p p' : PinGroup) : Prop :=
  p'.mode = p.mode ∧ p'.out = p.out ∧ p'.pull = p.pull

/-- R123, R215: the cells of the block that an error must leave alone. -/
def State.SameCells (s t : State) : Prop :=
  t.grp0 = s.grp0 ∧ t.grp1 = s.grp1 ∧ t.sig = s.sig ∧ t.int = s.int

/-- R188: nothing is left to do: no signal, no edge latched, no transaction pending, no deployment default to apply. -/
def State.Quiet (s : State) : Prop :=
  s.sig = none ∧ s.grp0.ep = false ∧ s.grp1.ep = false ∧ s.pending = none ∧ s.glue = none

/-- R97: the byte with a 1 at pin `i` alone. -/
def pinMask (i : Fin 8) : Byte := 1#8 <<< i.val

/-- R90, one pass of the loop: pin `i` becomes an output, or an input with pull-up. -/
def PinGroup.setPinModeAt (m : Byte) (p : PinGroup) (i : Fin 8) : PinGroup :=
  if m.getLsbD i then { p with mode := p.mode ||| pinMask i }
  else { p with mode := p.mode &&& ~~~pinMask i, pull := p.pull.set i .up }

/-- R92, one pass of the loop: pin `i`, if it is an output, is driven to its bit of `v`. -/
def PinGroup.writePinAt (v : Byte) (p : PinGroup) (i : Fin 8) : PinGroup :=
  if p.mode.getLsbD i then
    if v.getLsbD i then { p with out := p.out ||| pinMask i } else { p with out := p.out &&& ~~~pinMask i }
  else p

/-- R93, one pass of the loop: bit `i` of the result becomes the driven level of an output, the sampled level of an input. -/
def PinGroup.readPinAt (p : PinGroup) (ext : Vector Ext 8) (free r : Byte) (i : Fin 8) : Byte :=
  if (if p.mode.getLsbD i then p.out.getLsbD i else (sampled p ext free).getLsbD i) then r ||| pinMask i
  else r &&& ~~~pinMask i

/-- R94, one pass of the loop: pin `i`, if the mask selects it, takes the pull `q`. -/
def PinGroup.setPinPullAt (mask : Byte) (q : Pull) (p : PinGroup) (i : Fin 8) : PinGroup :=
  if mask.getLsbD i then { p with pull := p.pull.set i q } else p

end Sys2Proof.Machine
end

