-- ==== Sys2Proof/Certificates/Slice0/Obligations.lean ====
section
/-! DEFINITION. The statements about the block, from the spec's numbered rules: the decoder, the ten commands and the
bare read, the transaction step, the signal register and the edges, whole-machine rules, reset and progress. -/

open Sys2Proof Sys2Proof.Machine

/-! The decoder. -/

/-- R76: decoding undoes encoding, whatever bytes trail; a buffer that decodes to a command is that command's encoding and
trailing bytes, so re-encoding gives the buffer back exactly when nothing trails; and encoding is injective. The encoding is the
opcode byte and the payload bytes in field order. -/
def Obligations.DecodeUndoesEncode : Prop :=
  (∀ (c : Instr) (trailing : List Byte), decode (encode c ++ trailing) = .ok c) ∧
  (∀ (c : Instr) (bytes : List Byte), decode bytes = .ok c →
    (∃ trailing, bytes = encode c ++ trailing) ∧ (encode c = bytes ↔ bytes.length = (encode c).length)) ∧
  (∀ c d : Instr, encode c = encode d → c = d) ∧
  (∀ c : Instr, encode c = c.opcode :: c.payload)

/-- R60, R61, R62, R72: the ten opcodes and their payload bytes, read off the opcode table. -/
def Obligations.CommandWordsDecode : Prop :=
  ∀ a b : Byte,
    decode [0x01] = .ok .readIoModes ∧ decode [0x02, a, b] = .ok (.writeAllOutputs a b) ∧
    decode [0x03, a, b] = .ok (.setIoModes a b) ∧ decode [0x11, a] = .ok (.writeOutputs1 a) ∧
    decode [0x12, a] = .ok (.writeOutputs2 a) ∧ decode [0x21] = .ok .readInputs1 ∧
    decode [0x22] = .ok .readInputs2 ∧ decode [0x30, a, b] = .ok (.setPullDowns a b) ∧
    decode [0x31, a, b] = .ok (.setPullUps a b) ∧ decode [0x32, a, b] = .ok (.setPullNone a b)

/-- R63, R65: `Incomplete` exactly when fewer bytes follow the opcode than its arity, known or not; the arity of the ten
opcodes is that of their format, of any other opcode the open parameter. -/
def Obligations.IncompleteExactlyWhenShort : Prop :=
  (∀ (op : Byte) (payload : List Byte), decode (op :: payload) = .error .incomplete ↔ payload.length < arity op) ∧
  (∀ op ∈ opcodesF0, arity op = 0) ∧ (∀ op ∈ opcodesF1, arity op = 1) ∧ (∀ op ∈ opcodesF2, arity op = 2) ∧
  (∀ op : Byte, reservedOpcode op = true → arity op = (Config.unknownArity op).val)

/-- R66: `BadInput` exactly when the payload of the opcode's arity is there and the opcode is not one of the ten; so always for
an unknown opcode followed by two bytes or more, as in the source's three examples. -/
def Obligations.BadInputExactlyWhenUnknown : Prop :=
  (∀ (op : Byte) (payload : List Byte),
    decode (op :: payload) = .error .badInput ↔ reservedOpcode op = true ∧ arity op ≤ payload.length) ∧
  (∀ (op a b : Byte) (payload : List Byte), reservedOpcode op = true →
    decode (op :: a :: b :: payload) = .error .badInput) ∧
  decode [0x04, 0, 0] = .error .badInput ∧ decode [0x05, 0, 0] = .error .badInput ∧
  decode [0x06, 0, 0] = .error .badInput

/-- R45, R60, R73: a write phase decodes to a command exactly when it is not empty, its opcode is one of the ten and the
format's payload bytes are there. The reserved opcodes are 0x00, 0x04 to 0x10, 0x13 to 0x20, 0x23 to 0x2F and 0x33 to 0xFF. -/
def Obligations.CommandExactlyWhenWellFormed : Prop :=
  (∀ bytes : List Byte, (∃ c, decode bytes = .ok c) ↔ payloadWellFormed bytes = true) ∧
  (∀ (op : Byte) (payload : List Byte),
    op = 0x00 ∨ (0x04 ≤ op ∧ op ≤ 0x10) ∨ (0x13 ≤ op ∧ op ≤ 0x20) ∨ (0x23 ≤ op ∧ op ≤ 0x2F) ∨ 0x33 ≤ op →
    ∀ c, decode (op :: payload) ≠ .ok c)

/-- R67 (an inference of the spec's, D6, log entry 34): the decoder never raises `BadOffset`; R69 (the spec's decision D5, log
entry 5): not even on no bytes at all, which is `Incomplete`. -/
def Obligations.BadOffsetNeverRaised : Prop :=
  (∀ bytes : List Byte, decode bytes ≠ .error .badOffset) ∧ decode [] = .error .incomplete

/-- R70: the decoder consumes the opcode and its payload and does not look at the rest: the result depends on those bytes
alone, and bytes after a command change nothing; with the source's example. -/
def Obligations.DecoderIgnoresTrailingBytes : Prop :=
  (∀ (op : Byte) (payload : List Byte), decode (op :: payload) = decode ((op :: payload).take (1 + arity op))) ∧
  (∀ (c : Instr) (bytes trailing : List Byte), decode bytes = .ok c → decode (bytes ++ trailing) = .ok c) ∧
  (∀ (c : Instr) (op : Byte) (payload : List Byte), decode (op :: payload) = .ok c →
    decodeCursor (op :: payload) = 1 + arity op) ∧
  decode [0x01, 0, 0] = .ok .readIoModes

/-- R24: the cursor ends after the command it decoded, never exceeds the buffer, and is at most 3. -/
def Obligations.CursorEndsAfterCommand : Prop :=
  (∀ (c : Instr) (bytes : List Byte), decode bytes = .ok c → decodeCursor bytes = (encode c).length) ∧
  (∀ bytes : List Byte, decodeCursor bytes ≤ bytes.length ∧ decodeCursor bytes ≤ 3)

/-- R22 (the spec's inference, D3): what the receive buffer does not capture can never matter. -/
def Obligations.CaptureNeverMatters : Prop :=
  ∀ bytes : List Byte, decode (captureBytes bytes Config.rxMax) = decode bytes ∧
    decodeCursor (captureBytes bytes Config.rxMax) = decodeCursor bytes

/-! The pin group. -/

/-- R97: the pin-by-pin loops of R90, R92, R93 and R94, in any order of the eight pins, come to the operations applied to all
pins at once (the read from any byte its result is built up in). -/
def Obligations.PinOrderDoesNotMatter : Prop :=
  ∀ (order : List (Fin 8)) (p : PinGroup) (b r free : Byte) (q : Pull) (ext : Vector Ext 8),
    order.Perm (List.finRange 8) →
    order.foldl (PinGroup.setPinModeAt b) p = p.setPinModes b ∧
    order.foldl (PinGroup.writePinAt b) p = p.writePins b ∧
    order.foldl (PinGroup.setPinPullAt b q) p = p.setPinPulls b q ∧
    order.foldl (PinGroup.readPinAt p ext free) r = level p ext free

/-- R16, R17, R93: whatever the draw, each pin of the group reads as its direction, driver and pull say; and a pin that floats
reads either bit, by the draw. The pull-down reading is the spec's general knowledge G1 (log entry 8). -/
def Obligations.LevelReadsEveryPin : Prop :=
  ∀ (p : PinGroup) (ext : Vector Ext 8) (free : Byte),
    GroupReads p ext (level p ext free) ∧
    (∀ b : Byte, GroupReads p ext b → ∃ free', level p ext free' = b)

/-- R92, S7 of `95_test_vectors.md`: after `set_pin_modes(g, m)` and `write_pins(g, v)` a pin with mode bit 0 reads its sampled
level, whatever `v`. -/
def Obligations.WritesToInputsAreInvisible : Prop :=
  ∀ (p : PinGroup) (m v free : Byte) (ext : Vector Ext 8) (i : Fin 8), m.getLsbD i = false →
    (level ((p.setPinModes m).writePins v) ext free).getLsbD i = (sampled (p.setPinModes m) ext free).getLsbD i ∧
    ((p.setPinModes m).writePins v).out.getLsbD i = p.out.getLsbD i

/-- R28 (d): the pull of an output pin is never observable: two groups that differ only there read alike, and are alike in
every pin's pull that a later `set_pin_modes` makes an input. -/
def Obligations.PullOfOutputIsInvisible : Prop :=
  ∀ (p p' : PinGroup), p'.mode = p.mode → p'.out = p.out →
    (∀ i : Fin 8, p.mode.getLsbD i = false → p'.pull[i] = p.pull[i]) →
    (∀ (ext : Vector Ext 8) (free : Byte), level p' ext free = level p ext free) ∧
    (∀ (m : Byte) (ext : Vector Ext 8) (free : Byte), level (p'.setPinModes m) ext free = level (p.setPinModes m) ext free)

/-! The commands. Each statement gives the whole next state, so it is also the command's frame. -/

/-- R130, R120, R205: `ReadIoModes` replies with the two mode bytes and touches nothing else; on a Write it is an error and
does nothing. -/
def Obligations.ReadIoModesReplies : Prop :=
  ∀ s : State,
    (s.handler = .writeRead →
      exec .readIoModes s = .next { s with tx0 := s.grp0.mode, tx1 := s.grp1.mode, txLen := 2, result := .ok }) ∧
    (s.handler = .write →
      exec .readIoModes s = .next { s with result := .error (.invalidWriteCmd .readIoModes) })

/-- R131, R90: `SetIoModes` on a Write sets both mode bytes and pulls up every pin it makes an input; the pull of a pin it
makes an output, the driven levels and everything else stay. -/
def Obligations.SetIoModesSetsModesAndPulls : Prop :=
  ∀ (a b : Byte) (s : State), s.handler = .write →
    ∃ pull0 pull1 : Vector Pull 8,
      exec (.setIoModes a b) s = .next { s with
        grp0 := { s.grp0 with mode := a, pull := pull0 }
        grp1 := { s.grp1 with mode := b, pull := pull1 }
        result := .ok } ∧
      ∀ i : Fin 8,
        pull0[i] = (if a.getLsbD i then s.grp0.pull[i] else .up) ∧
        pull1[i] = (if b.getLsbD i then s.grp1.pull[i] else .up)

/-- R140, R92: `WriteAllOutputs` on a Write drives the output pins of both groups to their bits; the bits of input pins are
ignored, and everything else stays. -/
def Obligations.WriteAllOutputsDrivesOutputs : Prop :=
  ∀ (a b : Byte) (s : State), s.handler = .write →
    ∃ out0 out1 : Byte,
      exec (.writeAllOutputs a b) s = .next { s with
        grp0 := { s.grp0 with out := out0 }
        grp1 := { s.grp1 with out := out1 }
        result := .ok } ∧
      ∀ i : Fin 8,
        out0.getLsbD i = (if s.grp0.mode.getLsbD i then a.getLsbD i else s.grp0.out.getLsbD i) ∧
        out1.getLsbD i = (if s.grp1.mode.getLsbD i then b.getLsbD i else s.grp1.out.getLsbD i)

/-- R141, R142, R92: `WriteOutputs1` does so for group 0 alone and `WriteOutputs2` for group 1 alone (which group each
writes is the spec's reading D8, log entry 9). -/
def Obligations.SingleGroupWritesDriveOutputs : Prop :=
  ∀ (v : Byte) (s : State), s.handler = .write →
    (∃ out0 : Byte,
      exec (.writeOutputs1 v) s = .next { s with grp0 := { s.grp0 with out := out0 }, result := .ok } ∧
      ∀ i : Fin 8, out0.getLsbD i = (if s.grp0.mode.getLsbD i then v.getLsbD i else s.grp0.out.getLsbD i)) ∧
    (∃ out1 : Byte,
      exec (.writeOutputs2 v) s = .next { s with grp1 := { s.grp1 with out := out1 }, result := .ok } ∧
      ∀ i : Fin 8, out1.getLsbD i = (if s.grp1.mode.getLsbD i then v.getLsbD i else s.grp1.out.getLsbD i))

/-- R150, R93, R190: `ReadInputs1` on a WriteRead replies with a byte that group 0 may read, signals 0, and touches nothing
else but the draw counter of the model. -/
def Obligations.ReadInputsOneReadsAndClears : Prop :=
  ∀ s : State, s.handler = .writeRead →
    ∃ b : Byte, GroupReads s.grp0 s.ext0 b ∧
      exec .readInputs1 s = .next { s with
        tx0 := b, txLen := 1, sig := some false, result := .ok, draws := s.draws + 1 }

/-- R151, R93: `ReadInputs2` on a WriteRead replies with a byte that group 1 may read, in `TX[0]`, and does not clear the
interrupt. -/
def Obligations.ReadInputsTwoReadsOnly : Prop :=
  ∀ s : State, s.handler = .writeRead →
    ∃ b : Byte, GroupReads s.grp1 s.ext1 b ∧
      exec .readInputs2 s = .next { s with tx0 := b, txLen := 1, result := .ok, draws := s.draws + 1 }

/-- R160, R161, R162, R94: the three pull commands on a Write give every pin their masks select the pull down, up or none,
whatever its direction; every other pin keeps its pull, and everything else stays. -/
def Obligations.PullCommandsSetMaskedPulls : Prop :=
  ∀ (a b : Byte) (s : State), s.handler = .write →
    ∀ cq ∈ [(Instr.setPullDowns a b, Pull.down), (Instr.setPullUps a b, Pull.up), (Instr.setPullNone a b, Pull.none)],
      ∃ pull0 pull1 : Vector Pull 8,
        exec cq.1 s = .next { s with
          grp0 := { s.grp0 with pull := pull0 }
          grp1 := { s.grp1 with pull := pull1 }
          result := .ok } ∧
        ∀ i : Fin 8,
          pull0[i] = (if a.getLsbD i then cq.2 else s.grp0.pull[i]) ∧
          pull1[i] = (if b.getLsbD i then cq.2 else s.grp1.pull[i])

/-- R118, R120, R205, R206: a command on the transaction kind that does not accept it ends with that kind's error, carrying
the command, and has none of its effects. The read class is the three commands with a reply. -/
def Obligations.WrongKindHasNoEffect : Prop :=
  ∀ (c : Instr) (s : State),
    (c.replyLength.isSome ↔ c = .readIoModes ∨ c = .readInputs1 ∨ c = .readInputs2) ∧
    (s.handler = .write → c.replyLength.isSome →
      exec c s = .next { s with result := .error (.invalidWriteCmd c) }) ∧
    (s.handler = .writeRead → c.replyLength.isNone →
      exec c s = .next { s with result := .error (.invalidWriteReadCmd c) })

/-- R26, R48, R98: the frame of every command in every state, successful or not: no command touches the interrupt pin, the
edge latches, the receive buffer, the cursor or the pins' drivers; a read-class command leaves both groups' registers;
a write-class command leaves the signal register and the reply buffer; no command writes mode, level and pull of a group but as
the table of R50 says. -/
def Obligations.CommandFrame : Prop :=
  ∀ (c : Instr) (s t : State), exec c s = .next t →
    (t.int = s.int ∧ t.grp0.ep = s.grp0.ep ∧ t.grp1.ep = s.grp1.ep ∧ t.rx = s.rx ∧ t.cur = s.cur ∧
      t.handler = s.handler ∧ t.reply = s.reply ∧ t.pending = s.pending ∧ t.ext0 = s.ext0 ∧ t.ext1 = s.ext1 ∧
      t.glue = s.glue ∧ t.agenda = s.agenda) ∧
    (c.replyLength.isSome → t.grp0 = s.grp0 ∧ t.grp1 = s.grp1) ∧
    (c.replyLength.isNone → t.sig = s.sig ∧ t.tx0 = s.tx0 ∧ t.tx1 = s.tx1 ∧ t.txLen = s.txLen ∧ t.draws = s.draws) ∧
    (c ≠ .readInputs1 → t.sig = s.sig) ∧
    ((t.grp0.mode ≠ s.grp0.mode ∨ t.grp1.mode ≠ s.grp1.mode) → c.opcode = 0x03) ∧
    (t.grp0.out ≠ s.grp0.out → c.opcode = 0x02 ∨ c.opcode = 0x11) ∧
    (t.grp1.out ≠ s.grp1.out → c.opcode = 0x02 ∨ c.opcode = 0x12) ∧
    ((t.grp0.pull ≠ s.grp0.pull ∨ t.grp1.pull ≠ s.grp1.pull) →
      c.opcode = 0x03 ∨ c.opcode = 0x30 ∨ c.opcode = 0x31 ∨ c.opcode = 0x32)

/-- R49 (an inference of the spec's): a write-class command sent twice in a row leaves what sending it once leaves. -/
def Obligations.WriteClassIsIdempotent : Prop :=
  ∀ (c : Instr) (s t : State), c.replyLength.isNone → s.handler = .write → exec c s = .next t → exec c t = .next t

/-! The transaction step. -/

/-- R117, R119, R183: a step that services a transaction whose payload decodes to a command is `exec` of that command in the
state with the payload loaded for the kind's handler, followed by the end of the transaction, which keeps what the command
left: modes, driven levels and pulls of both groups, set edge latches, signal register, interrupt pin, result and buffers. It
gives the host its reply, and nothing is pending. R183, R186, R188: with the signal register full (the spec's decision D18,
log entry 10) or nothing pending, the turn changes nothing. `u` is the state with the turn taken from the agenda. -/
def Obligations.StepRunsDecodedCommand : Prop :=
  (∀ (s u : State) (t : Transaction) (h : Handler) (bytes : List Byte) (c : Instr),
    s.nextTurn = (.transaction, u) → u.sig = none → u.pending = some t →
    (t = .write bytes ∧ h = .write) ∨ (h = .writeRead ∧ ∃ k, t = .writeRead bytes k) →
    decode bytes = .ok c →
    ∃ v w, exec c (u.loadCommand h bytes) = .next v ∧ step s = .next w ∧ w = State.endTransaction t u v ∧
      (∀ g, (v.grp g).SameConfig (w.grp g) ∧ ((v.grp g).ep = true → (w.grp g).ep = true)) ∧
      w.sig = v.sig ∧ w.int = v.int ∧ w.result = v.result ∧ w.pending = none ∧
      w.reply = (v.sendReply t.count).reply ∧ w.rx = v.rx ∧ w.cur = v.cur ∧ w.tx0 = v.tx0 ∧ w.tx1 = v.tx1 ∧
      w.txLen = v.txLen ∧ w.ext0 = v.ext0 ∧ w.ext1 = v.ext1 ∧ w.glue = v.glue ∧ w.agenda = v.agenda) ∧
  (∀ s u : State, s.nextTurn = (.transaction, u) → u.sig ≠ none ∨ u.pending = none → step s = .next u)

/-- R78, R122, R130: `WR[01 ...](k)`, end to end: the host gets the mode bytes, and no cell of the block has changed. That the
reply is cut to `k` bytes, or filled up with free bytes, is the spec's decision D21 (log entry 18). -/
def Obligations.HostReadsModes : Prop :=
  ∀ (s u : State) (trailing : List Byte) (k : Nat),
    s.nextTurn = (.transaction, u) → u.sig = none → u.pending = some (.writeRead (0x01 :: trailing) k) →
    ∃ t, step s = .next t ∧ t.result = .ok ∧ t.pending = none ∧ t.reply.length = k ∧
      t.reply.take 2 = [u.grp0.mode, u.grp1.mode].take k ∧ u.SameCells t

/-- R78, R122, R150, R151: `WR[21 ...](k)` and `WR[22 ...](k)`, end to end: the first byte the host gets is one that the group
may read; 0x21 signals 0, 0x22 signals nothing; no register of a pin group changes and not the interrupt pin. That a reply of
no bytes still has the effects, and that bytes beyond the first are free, is the spec's decision D21 (log entry 18). -/
def Obligations.HostReadsInputs : Prop :=
  (∀ (s u : State) (trailing : List Byte) (k : Nat),
    s.nextTurn = (.transaction, u) → u.sig = none → u.pending = some (.writeRead (0x21 :: trailing) k) →
    ∃ (t : State) (b : Byte), step s = .next t ∧ t.result = .ok ∧ t.pending = none ∧ t.sig = some false ∧
      t.int = u.int ∧ t.grp0 = u.grp0 ∧ t.grp1 = u.grp1 ∧ t.reply.length = k ∧ t.reply.take 1 = [b].take k ∧
      GroupReads u.grp0 u.ext0 b) ∧
  (∀ (s u : State) (trailing : List Byte) (k : Nat),
    s.nextTurn = (.transaction, u) → u.sig = none → u.pending = some (.writeRead (0x22 :: trailing) k) →
    ∃ (t : State) (b : Byte), step s = .next t ∧ t.result = .ok ∧ t.pending = none ∧ u.SameCells t ∧
      t.reply.length = k ∧ t.reply.take 1 = [b].take k ∧ GroupReads u.grp1 u.ext1 b)

/-- R121, R152, R111, R122: a bare read of `k` bytes signals 0 and gives the host a byte that group 0 may read, then one that
group 1 may read; it changes no register of a pin group and not the interrupt pin. That the reply is cut to `k` bytes, or filled
up with free bytes, is the spec's decision D21 (log entry 18), and that a read of 0 bytes clears too its decision D37 (log
entry 19). -/
def Obligations.BusReadReadsBothAndClears : Prop :=
  ∀ (s u : State) (k : Nat), s.nextTurn = (.transaction, u) → u.sig = none → u.pending = some (.read k) →
    ∃ (t : State) (b0 b1 : Byte), step s = .next t ∧ t.result = .ok ∧ t.pending = none ∧ t.sig = some false ∧
      t.int = u.int ∧ t.grp0 = u.grp0 ∧ t.grp1 = u.grp1 ∧ t.reply.length = k ∧ t.reply.take 2 = [b0, b1].take k ∧
      GroupReads u.grp0 u.ext0 b0 ∧ GroupReads u.grp1 u.ext1 b1

/-- R123, R201 to R204, R209: a Write or WriteRead whose payload does not decode ends with `FailedToParseCmd` of the decoder's
error and changes no cell of the block. That the host gets as many bytes as it clocks is log entry 18, that an empty payload
reaches the handler the spec's decision D24 (log entry 19), that the reply buffer is kept log entry 20. -/
def Obligations.ParseFailureChangesNothing : Prop :=
  ∀ (s u : State) (t : Transaction) (bytes : List Byte) (e : DecodeError),
    s.nextTurn = (.transaction, u) → u.sig = none → u.pending = some t →
    t = .write bytes ∨ (∃ k, t = .writeRead bytes k) → decode bytes = .error e →
    ∃ v, step s = .next v ∧ v.result = .error (.failedToParseCmd e) ∧ v.pending = none ∧
      v.reply.length = t.count ∧ u.SameCells v ∧ v.tx0 = u.tx0 ∧ v.tx1 = u.tx1 ∧ v.txLen = u.txLen

/-- R204, R205, R206, R209: a serviced transaction ends with each of the three `DeviceError`s exactly on its cause, which the
error records: the decoder's error on a Write or WriteRead; a command of the read class on a Write; one of the write class on a
WriteRead. That an empty Write or WriteRead reaches its handler, and so ends with the decoder's error, is the spec's decision
D24 (log entry 19); that this error is then `Incomplete` its decision D5 (log entry 5). -/
def Obligations.ErrorsHaveExactlyTheirCauses : Prop :=
  ∀ (s u v : State) (t : Transaction),
    s.nextTurn = (.transaction, u) → u.sig = none → u.pending = some t → step s = .next v →
    (∀ e, v.result = .error (.failedToParseCmd e) ↔
      ∃ bytes, (t = .write bytes ∨ ∃ k, t = .writeRead bytes k) ∧ decode bytes = .error e) ∧
    (∀ c, v.result = .error (.invalidWriteCmd c) ↔
      ∃ bytes, t = .write bytes ∧ decode bytes = .ok c ∧ c ∈ [Instr.readIoModes, .readInputs1, .readInputs2]) ∧
    (∀ c, v.result = .error (.invalidWriteReadCmd c) ↔
      ∃ bytes k, t = .writeRead bytes k ∧ decode bytes = .ok c ∧
        c.opcode ∈ ([0x02, 0x03, 0x11, 0x12, 0x30, 0x31, 0x32] : List Byte))

/-- R123, R215: any serviced transaction that ends with an error, of whatever kind, leaves `MODE`, `OUT`, `PULL`, `EP`, `SIG` and
`INT` as they were. -/
def Obligations.ErrorChangesNoCell : Prop :=
  ∀ (s u t : State) (T : Transaction) (e : DeviceError),
    s.nextTurn = (.transaction, u) → u.sig = none → u.pending = some T → step s = .next t → t.result = .error e →
    u.SameCells t ∧ t.pending = none

/-- R23, R122, R123: the valid reply bytes are the first `TXLEN` of `TX` after a handler that ended ok, and none otherwise. The
reply step gives the host exactly the bytes it clocks, the valid ones first, in order (the spec's decisions D21 and D22, log
entry 18). -/
def Obligations.ReplyStartsWithValidBytes : Prop :=
  ∀ (s : State) (k : Nat),
    (s.result = .ok → s.validReply = [s.tx0, s.tx1].take s.txLen) ∧
    (s.result ≠ .ok → s.validReply = []) ∧
    (s.sendReply k).reply.length = k ∧
    (∀ j, j < k → j < s.validReply.length → (s.sendReply k).reply[j]? = s.validReply[j]?) ∧
    (s.result = .ok → k ≤ s.txLen → s.txLen ≤ 2 → (s.sendReply k).reply = [s.tx0, s.tx1].take k)

/-! The signal register, the driver and the edges. -/

/-- R171, R172, R173: `signal` overwrites and fills, `wait` takes the value and empties, and is not enabled on the empty register;
of a run of signals only the last is delivered. -/
def Obligations.SignalOverwritesAndWaitConsumes : Prop :=
  ∀ (s : State) (u v : Bool),
    (s.signal v).sig = some v ∧ (s.signal u).signal v = s.signal v ∧
    (s.signal v).wait = some (v, { s with sig := none }) ∧ (s.wait = none ↔ s.sig = none)

/-- R175, R176, R188: the driver's turn copies the signalled level to the interrupt pin and empties the register, touching
nothing else; on the empty register it is parked. -/
def Obligations.DriverDrivesSignalledLevel : Prop :=
  ∀ (s u : State), s.nextTurn = (.drv, u) →
    (∀ v, u.sig = some v → step s = .next { u with sig := none, int := v }) ∧
    (u.sig = none → step s = .next u)

/-- R21 (the spec's decision D20, log entry 13): the interrupt pin always stands at the level of `INT`; so the driver's step puts
the signalled level on the pin itself. -/
def Obligations.InterruptPinFollowsInt : Prop :=
  (∀ s : State, s.intPin = s.int) ∧
  (∀ (s u : State) (v : Bool), s.nextTurn = (.drv, u) → u.sig = some v → ∃ t, step s = .next t ∧ t.intPin = v)

/-- R181, R182, R95, R188: the edge-win step of a latched group clears its latch and, for group 0 alone, signals 1; without
a latched edge it is parked; and the driver has precedence over it (the spec's decision D18, log entry 10). -/
def Obligations.EdgeWinSignalsGroupZeroOnly : Prop :=
  ∀ (s u : State),
    (s.nextTurn = (.edge .g0, u) → u.sig = none → u.grp0.ep = true →
      step s = .next { u with grp0 := { u.grp0 with ep := false }, sig := some true }) ∧
    (s.nextTurn = (.edge .g1, u) → u.sig = none → u.grp1.ep = true →
      step s = .next { u with grp1 := { u.grp1 with ep := false } }) ∧
    (∀ g, s.nextTurn = (.edge g, u) → u.sig ≠ none ∨ (u.grp g).ep = false → step s = .next u)

/-- R178, R177, R15: an environment step latches an edge in a group when an input pin of it goes from one defined level to the
other; sets no latch when every pin reads as before and none floats; never clears one; and moves nothing but the latches and the
pins' drivers. -/
def Obligations.EnvironmentLatchesEdges : Prop :=
  ∀ (s u : State) (e0 e1 : Vector Ext 8) (n0 n1 : Bool), s.nextTurn = (.env e0 e1 n0 n1, u) →
    ∃ ep0 ep1 : Bool,
      step s = .next { u with
        grp0 := { u.grp0 with ep := ep0 }, grp1 := { u.grp1 with ep := ep1 }, ext0 := e0, ext1 := e1 } ∧
      (u.grp0.ep = true → ep0 = true) ∧ (u.grp1.ep = true → ep1 = true) ∧
      (∀ i : Fin 8, (∃ v, definedLevel u.grp0 u.ext0 i = some v ∧ definedLevel u.grp0 e0 i = some (!v)) → ep0 = true) ∧
      (∀ i : Fin 8, (∃ v, definedLevel u.grp1 u.ext1 i = some v ∧ definedLevel u.grp1 e1 i = some (!v)) → ep1 = true) ∧
      ((∀ i : Fin 8, ∃ v, definedLevel u.grp0 u.ext0 i = some v ∧ definedLevel u.grp0 e0 i = some v) → ep0 = u.grp0.ep) ∧
      ((∀ i : Fin 8, ∃ v, definedLevel u.grp1 u.ext1 i = some v ∧ definedLevel u.grp1 e1 i = some v) → ep1 = u.grp1.ep)

/-- R178, R211: nothing the environment does makes an edge on a group whose eight pins are outputs. -/
def Obligations.OutputsMakeNoEnvironmentEdge : Prop :=
  ∀ (s u t : State) (e0 e1 : Vector Ext 8) (n0 n1 : Bool), s.nextTurn = (.env e0 e1 n0 n1, u) → step s = .next t →
    (u.grp0.mode = 0xFF → t.grp0 = u.grp0) ∧ (u.grp1.mode = 0xFF → t.grp1 = u.grp1)

/-- R183, R207: the host's transaction becomes pending when none is; an issue turn that finds one pending changes nothing (log
entry 36); an aborted one (the spec's decision D23, log entry 17) is gone with no cell changed. -/
def Obligations.HostIssuesOneTransaction : Prop :=
  ∀ (s u : State),
    (∀ T, s.nextTurn = (.issue T, u) → u.pending = none → step s = .next { u with pending := some T }) ∧
    (∀ T, s.nextTurn = (.issue T, u) → u.pending ≠ none → step s = .next u) ∧
    (s.nextTurn = (.abort, u) → ∃ t, step s = .next t ∧ t.pending = none ∧ u.SameCells t)

/-! Whole-machine rules: every step, every state. -/

/-- R188, R208: no step of the machine stops it. -/
def Obligations.EveryStepAnswersNext : Prop :=
  (∀ s : State, ∃ t, step s = .next t) ∧ (∀ (c : Instr) (s : State), ∃ t, exec c s = .next t)

/-- R22, R23, R24: every step keeps the bounds of the transient cells. -/
def Obligations.StepKeepsBounds : Prop :=
  ∀ s t : State, s.Inv → step s = .next t → t.Inv

/-- R185, R207: a pending transaction stays pending until it is serviced (or aborted on the bus): in any step it is still pending
afterwards, or the step is the transaction-win step, enabled, or the abort. -/
def Obligations.PendingTransactionNeverLost : Prop :=
  ∀ (s t : State) (T : Transaction), s.pending = some T → step s = .next t →
    t.pending = some T ∨
    (t.pending = none ∧ ((s.nextTurn.1 = .transaction ∧ s.sig = none) ∨ s.nextTurn.1 = .abort))

/-- R14, R99, R52 (retention is the spec's decision D9, log entry 7): in any step, a bit of a driven-level latch changes only if
its pin is an output, and the configuration of a pin group changes only in a transaction step or at the glue's hands. -/
def Obligations.DrivenLevelChangesOnlyOnOutputs : Prop :=
  ∀ (s t : State) (g : Group), step s = .next t →
    (∀ i : Fin 8, (t.grp g).out.getLsbD i ≠ (s.grp g).out.getLsbD i → (s.grp g).mode.getLsbD i = true) ∧
    (¬ (s.grp g).SameConfig (t.grp g) → s.nextTurn.1 = .transaction ∨ s.nextTurn.1 = .glue)

/-- R176, R186: the interrupt pin changes only in a driver step, to the level that was signalled. -/
def Obligations.InterruptPinMovesOnlyByDriver : Prop :=
  ∀ s t : State, step s = .next t → t.int ≠ s.int →
    s.nextTurn.1 = .drv ∧ s.sig = some t.int ∧ t.sig = none ∧ t.grp0 = s.grp0 ∧ t.grp1 = s.grp1

/-- R53, R186, R254 (strict priority is the spec's decision D18, log entry 10): a signalled level is never lost before the driver
puts it on the interrupt pin: nothing overwrites or drops it. -/
def Obligations.SignalledLevelNeverLost : Prop :=
  ∀ (s t : State) (v : Bool), s.sig = some v → step s = .next t →
    (t.sig = some v ∧ t.int = s.int) ∨ (t.sig = none ∧ t.int = v)

/-- R53, R186, R191 (strict priority as above; that turns come as the agenda says is log entry 15): a signalled level reaches the
interrupt pin. Whatever the other agents' turns before the driver's are, the driver drives exactly that level; and while nothing
outside moves it does so within two steps, the first of which may be the glue's. -/
def Obligations.SignalledLevelReachesPin : Prop :=
  (∀ (s : State) (v : Bool) (before rest : List Turn), s.glue = none → s.sig = some v → (∀ a ∈ before, a ≠ .drv) →
    s.agenda = before ++ .drv :: rest →
    ∃ t, Host.Core.run Sys2Proof.core (before.length + 1) s = .next t ∧ t.sig = none ∧ t.int = v ∧ t.agenda = rest) ∧
  (∀ (s : State) (v : Bool), s.agenda = [] → s.sig = some v →
    ∃ t, Host.Core.run Sys2Proof.core 2 s = .next t ∧ t.int = v)

/-- R185, R181: a latch is cleared only by the edge-win step of its group, which for group 0 leaves 1 in the signal register. -/
def Obligations.EdgeLatchClearedOnlyByEdgeWin : Prop :=
  ∀ (s t : State) (g : Group), step s = .next t → (s.grp g).ep = true → (t.grp g).ep = false →
    s.nextTurn.1 = .edge g ∧ s.sig = none ∧ t.sig = (match g with | .g0 => some true | .g1 => none)

/-- R210, R182: only an edge latched in group 0 puts 1 into the signal register. -/
def Obligations.InterruptAssertedOnlyByGroupZero : Prop :=
  ∀ s t : State, step s = .next t → t.sig = some true → s.sig ≠ some true →
    s.nextTurn.1 = .edge .g0 ∧ s.grp0.ep = true ∧ t.grp0.ep = false

/-- R213 (with the spec's decision D19, log entry 11): only a bare read, or a WriteRead that decodes to `ReadInputs1`, puts 0
into the signal register. -/
def Obligations.InterruptClearedOnlyByTwoReads : Prop :=
  ∀ s t : State, step s = .next t → t.sig = some false → s.sig ≠ some false →
    s.nextTurn.1 = .transaction ∧ t.pending = none ∧
    ((∃ k, s.pending = some (.read k)) ∨
      ∃ bytes k, s.pending = some (.writeRead bytes k) ∧ decode bytes = .ok .readInputs1)

/-- R179, R246 (pins that begin or cease to float are the model's choice, log entry 3): a transaction step, and likewise the
glue's step that applies the deployment default, latches an edge exactly where `SELF_INDUCED_EDGES` holds and the level of the
group changed: certainly when a pin went from one defined level to the other, never when every pin kept its defined level or
the group's configuration is the same. -/
def Obligations.SelfInducedEdgesFollowLevelChanges : Prop :=
  ∀ (s t : State) (g : Group), s.nextTurn.1 = .transaction ∨ s.nextTurn.1 = .glue → step s = .next t →
    ∃ changed : Bool, (t.grp g).ep = ((s.grp g).ep || (changed && Config.selfInducedEdges)) ∧
      (∀ i : Fin 8,
        (∃ v, definedLevel (s.grp g) (s.ext g) i = some v ∧ definedLevel (t.grp g) (s.ext g) i = some (!v)) →
        changed = true) ∧
      ((∀ i : Fin 8,
        ∃ v, definedLevel (s.grp g) (s.ext g) i = some v ∧ definedLevel (t.grp g) (s.ext g) i = some v) →
        changed = false) ∧
      ((s.grp g).SameConfig (t.grp g) → changed = false)

/-! Reset and progress. -/

/-- R27, R242, R243: all pins inputs with pull-up, no edge latched, the signal register empty, the interrupt line and its pin
low, no transaction pending, and the deployment default, whatever it is, still to be applied (D25, log entry 14); that `EP` and
`SIG` start so is the spec's decision D16 (log entry 6), the polarity of the pin its decision D20 (log entry 13). -/
def Obligations.ResetConfiguration : Prop :=
  State.reset.grp0.mode = 0x00 ∧ State.reset.grp1.mode = 0x00 ∧
  (∀ i : Fin 8, State.reset.grp0.pull[i] = .up ∧ State.reset.grp1.pull[i] = .up) ∧
  State.reset.grp0.ep = false ∧ State.reset.grp1.ep = false ∧ State.reset.sig = none ∧
  State.reset.int = false ∧ State.reset.intPin = false ∧
  State.reset.pending = none ∧ State.reset.glue = Config.deployModes

/-- R22, R23, R24: the bounds of the transient cells hold at reset. -/
def Obligations.ResetMeetsBounds : Prop := State.reset.Inv

/-- R243, S5 of `95_test_vectors.md`: straight after reset, where no deployment default is applied (`DEPLOY_MODES` none, D25) and
nothing is connected (log entry 16), a bare read of two bytes gives 0xFF, 0xFF, whatever `OUT_RESET`. -/
def Obligations.ResetBusReadGivesOnes : Prop :=
  ∃ t, step { State.reset with glue := none, pending := some (.read 2) } = .next t ∧ t.reply = [0xFF, 0xFF] ∧
    t.sig = some false

/-- R243, R246, M6 of `95_test_vectors.md`: where the deployment default is a pair, the first host transactions after it find
those modes, and a bare read with nothing connected (log entry 16) finds 1 on the inputs and `OUT_RESET` on the outputs. -/
def Obligations.DeployedResetReadsBack : Prop :=
  ∀ m0 m1 : Byte,
    (∃ t, Host.Core.run Sys2Proof.core 2 { State.reset with
        glue := some (m0, m1), pending := some (.writeRead [0x01] 2), agenda := [.transaction] } = .next t ∧
      t.reply = [m0, m1]) ∧
    (∃ t b0 b1, Host.Core.run Sys2Proof.core 2 { State.reset with
        glue := some (m0, m1), pending := some (.read 2), agenda := [.transaction] } = .next t ∧
      t.reply = [b0, b1] ∧
      ∀ i : Fin 8,
        b0.getLsbD i = (if m0.getLsbD i then (Config.outReset .g0).getLsbD i else true) ∧
        b1.getLsbD i = (if m1.getLsbD i then (Config.outReset .g1).getLsbD i else true))

/-- R246, R27 (log entry 14): the deployment default is applied before anything else, once: modes and pulls as `SetIoModes`
sets them, driven levels kept, no signal and no change of the interrupt pin. -/
def Obligations.DeploymentDefaultComesFirst : Prop :=
  ∀ (s : State) (m0 m1 : Byte), s.glue = some (m0, m1) →
    ∃ t, step s = .next t ∧ t.glue = none ∧ t.agenda = s.agenda ∧ t.pending = s.pending ∧ t.sig = s.sig ∧ t.int = s.int ∧
      (s.grp0.setPinModes m0).SameConfig t.grp0 ∧ (s.grp1.setPinModes m1).SameConfig t.grp1 ∧
      (∀ i : Fin 8, t.grp0.pull[i] = (if m0.getLsbD i then s.grp0.pull[i] else .up) ∧
        t.grp1.pull[i] = (if m1.getLsbD i then s.grp1.pull[i] else .up))

/-- R191, R212 (progress; that the block's own turns come while nothing outside moves is the model's choice, log entry 15): an edge
latched in group 0, with no transaction pending, reaches the interrupt pin within three steps. -/
def Obligations.LatchedEdgeReachesPin : Prop :=
  ∀ s : State, s.agenda = [] → s.glue = none → s.pending = none → s.sig = none → s.grp0.ep = true →
    ∃ t, Host.Core.run Sys2Proof.core 3 s = .next t ∧ t.int = true

/-- R188, R191, R225 (progress, as above): while nothing outside moves, the block works off whatever is signalled, latched and
pending within 10 steps, after which every step changes nothing. -/
def Obligations.QuietWorldDrains : Prop :=
  ∀ s : State, s.agenda = [] →
    ∃ t, Host.Core.run Sys2Proof.core 10 s = .next t ∧ t.Quiet ∧ step t = .next t
end

