-- ==== Sys2Proof/Laws/State.lean ====
section
/-! SUPPORT. One lemma per field per update of the state, true by unfolding the update once, so that no later proof unfolds
a record update. -/

namespace Sys2Proof.Machine

variable (s : State)

/-! Group accessors. -/

@[simp] theorem State.grp_g0 : s.grp .g0 = s.grp0 := rfl
@[simp] theorem State.grp_g1 : s.grp .g1 = s.grp1 := rfl
@[simp] theorem State.ext_g0 : s.ext .g0 = s.ext0 := rfl
@[simp] theorem State.ext_g1 : s.ext .g1 = s.ext1 := rfl

/-! `setGrp` and `onGrp`, group by group. -/

@[simp] theorem State.setGrp_g0 (p : PinGroup) : s.setGrp .g0 p = { s with grp0 := p } := rfl
@[simp] theorem State.setGrp_g1 (p : PinGroup) : s.setGrp .g1 p = { s with grp1 := p } := rfl
@[simp] theorem State.onGrp_g0 (f : PinGroup → PinGroup) : s.onGrp .g0 f = { s with grp0 := f s.grp0 } := rfl
@[simp] theorem State.onGrp_g1 (f : PinGroup → PinGroup) : s.onGrp .g1 f = { s with grp1 := f s.grp1 } := rfl

/-! `signal`. -/

@[simp] theorem State.signal_grp0 (v : Bool) : (s.signal v).grp0 = s.grp0 := rfl
@[simp] theorem State.signal_grp1 (v : Bool) : (s.signal v).grp1 = s.grp1 := rfl
@[simp] theorem State.signal_sig (v : Bool) : (s.signal v).sig = some v := rfl
@[simp] theorem State.signal_int (v : Bool) : (s.signal v).int = s.int := rfl
@[simp] theorem State.signal_rx (v : Bool) : (s.signal v).rx = s.rx := rfl
@[simp] theorem State.signal_tx0 (v : Bool) : (s.signal v).tx0 = s.tx0 := rfl
@[simp] theorem State.signal_tx1 (v : Bool) : (s.signal v).tx1 = s.tx1 := rfl
@[simp] theorem State.signal_txLen (v : Bool) : (s.signal v).txLen = s.txLen := rfl
@[simp] theorem State.signal_cur (v : Bool) : (s.signal v).cur = s.cur := rfl
@[simp] theorem State.signal_handler (v : Bool) : (s.signal v).handler = s.handler := rfl
@[simp] theorem State.signal_result (v : Bool) : (s.signal v).result = s.result := rfl
@[simp] theorem State.signal_reply (v : Bool) : (s.signal v).reply = s.reply := rfl
@[simp] theorem State.signal_pending (v : Bool) : (s.signal v).pending = s.pending := rfl
@[simp] theorem State.signal_ext0 (v : Bool) : (s.signal v).ext0 = s.ext0 := rfl
@[simp] theorem State.signal_ext1 (v : Bool) : (s.signal v).ext1 = s.ext1 := rfl
@[simp] theorem State.signal_glue (v : Bool) : (s.signal v).glue = s.glue := rfl
@[simp] theorem State.signal_agenda (v : Bool) : (s.signal v).agenda = s.agenda := rfl
@[simp] theorem State.signal_draws (v : Bool) : (s.signal v).draws = s.draws := rfl

/-! `accept`. -/

@[simp] theorem State.accept_grp0 : (s.accept).grp0 = s.grp0 := rfl
@[simp] theorem State.accept_grp1 : (s.accept).grp1 = s.grp1 := rfl
@[simp] theorem State.accept_sig : (s.accept).sig = s.sig := rfl
@[simp] theorem State.accept_int : (s.accept).int = s.int := rfl
@[simp] theorem State.accept_rx : (s.accept).rx = s.rx := rfl
@[simp] theorem State.accept_tx0 : (s.accept).tx0 = s.tx0 := rfl
@[simp] theorem State.accept_tx1 : (s.accept).tx1 = s.tx1 := rfl
@[simp] theorem State.accept_txLen : (s.accept).txLen = s.txLen := rfl
@[simp] theorem State.accept_cur : (s.accept).cur = s.cur := rfl
@[simp] theorem State.accept_handler : (s.accept).handler = s.handler := rfl
@[simp] theorem State.accept_result : (s.accept).result = .ok := rfl
@[simp] theorem State.accept_reply : (s.accept).reply = s.reply := rfl
@[simp] theorem State.accept_pending : (s.accept).pending = s.pending := rfl
@[simp] theorem State.accept_ext0 : (s.accept).ext0 = s.ext0 := rfl
@[simp] theorem State.accept_ext1 : (s.accept).ext1 = s.ext1 := rfl
@[simp] theorem State.accept_glue : (s.accept).glue = s.glue := rfl
@[simp] theorem State.accept_agenda : (s.accept).agenda = s.agenda := rfl
@[simp] theorem State.accept_draws : (s.accept).draws = s.draws := rfl

/-! `raise`. -/

@[simp] theorem State.raise_grp0 (e : DeviceError) : (s.raise e).grp0 = s.grp0 := rfl
@[simp] theorem State.raise_grp1 (e : DeviceError) : (s.raise e).grp1 = s.grp1 := rfl
@[simp] theorem State.raise_sig (e : DeviceError) : (s.raise e).sig = s.sig := rfl
@[simp] theorem State.raise_int (e : DeviceError) : (s.raise e).int = s.int := rfl
@[simp] theorem State.raise_rx (e : DeviceError) : (s.raise e).rx = s.rx := rfl
@[simp] theorem State.raise_tx0 (e : DeviceError) : (s.raise e).tx0 = s.tx0 := rfl
@[simp] theorem State.raise_tx1 (e : DeviceError) : (s.raise e).tx1 = s.tx1 := rfl
@[simp] theorem State.raise_txLen (e : DeviceError) : (s.raise e).txLen = s.txLen := rfl
@[simp] theorem State.raise_cur (e : DeviceError) : (s.raise e).cur = s.cur := rfl
@[simp] theorem State.raise_handler (e : DeviceError) : (s.raise e).handler = s.handler := rfl
@[simp] theorem State.raise_result (e : DeviceError) : (s.raise e).result = .error e := rfl
@[simp] theorem State.raise_reply (e : DeviceError) : (s.raise e).reply = s.reply := rfl
@[simp] theorem State.raise_pending (e : DeviceError) : (s.raise e).pending = s.pending := rfl
@[simp] theorem State.raise_ext0 (e : DeviceError) : (s.raise e).ext0 = s.ext0 := rfl
@[simp] theorem State.raise_ext1 (e : DeviceError) : (s.raise e).ext1 = s.ext1 := rfl
@[simp] theorem State.raise_glue (e : DeviceError) : (s.raise e).glue = s.glue := rfl
@[simp] theorem State.raise_agenda (e : DeviceError) : (s.raise e).agenda = s.agenda := rfl
@[simp] theorem State.raise_draws (e : DeviceError) : (s.raise e).draws = s.draws := rfl

/-! `putReply1`. -/

@[simp] theorem State.putReply1_grp0 (b : Byte) : (s.putReply1 b).grp0 = s.grp0 := rfl
@[simp] theorem State.putReply1_grp1 (b : Byte) : (s.putReply1 b).grp1 = s.grp1 := rfl
@[simp] theorem State.putReply1_sig (b : Byte) : (s.putReply1 b).sig = s.sig := rfl
@[simp] theorem State.putReply1_int (b : Byte) : (s.putReply1 b).int = s.int := rfl
@[simp] theorem State.putReply1_rx (b : Byte) : (s.putReply1 b).rx = s.rx := rfl
@[simp] theorem State.putReply1_tx0 (b : Byte) : (s.putReply1 b).tx0 = b := rfl
@[simp] theorem State.putReply1_tx1 (b : Byte) : (s.putReply1 b).tx1 = s.tx1 := rfl
@[simp] theorem State.putReply1_txLen (b : Byte) : (s.putReply1 b).txLen = 1 := rfl
@[simp] theorem State.putReply1_cur (b : Byte) : (s.putReply1 b).cur = s.cur := rfl
@[simp] theorem State.putReply1_handler (b : Byte) : (s.putReply1 b).handler = s.handler := rfl
@[simp] theorem State.putReply1_result (b : Byte) : (s.putReply1 b).result = s.result := rfl
@[simp] theorem State.putReply1_reply (b : Byte) : (s.putReply1 b).reply = s.reply := rfl
@[simp] theorem State.putReply1_pending (b : Byte) : (s.putReply1 b).pending = s.pending := rfl
@[simp] theorem State.putReply1_ext0 (b : Byte) : (s.putReply1 b).ext0 = s.ext0 := rfl
@[simp] theorem State.putReply1_ext1 (b : Byte) : (s.putReply1 b).ext1 = s.ext1 := rfl
@[simp] theorem State.putReply1_glue (b : Byte) : (s.putReply1 b).glue = s.glue := rfl
@[simp] theorem State.putReply1_agenda (b : Byte) : (s.putReply1 b).agenda = s.agenda := rfl
@[simp] theorem State.putReply1_draws (b : Byte) : (s.putReply1 b).draws = s.draws := rfl

/-! `putReply2`. -/

@[simp] theorem State.putReply2_grp0 (a b : Byte) : (s.putReply2 a b).grp0 = s.grp0 := rfl
@[simp] theorem State.putReply2_grp1 (a b : Byte) : (s.putReply2 a b).grp1 = s.grp1 := rfl
@[simp] theorem State.putReply2_sig (a b : Byte) : (s.putReply2 a b).sig = s.sig := rfl
@[simp] theorem State.putReply2_int (a b : Byte) : (s.putReply2 a b).int = s.int := rfl
@[simp] theorem State.putReply2_rx (a b : Byte) : (s.putReply2 a b).rx = s.rx := rfl
@[simp] theorem State.putReply2_tx0 (a b : Byte) : (s.putReply2 a b).tx0 = a := rfl
@[simp] theorem State.putReply2_tx1 (a b : Byte) : (s.putReply2 a b).tx1 = b := rfl
@[simp] theorem State.putReply2_txLen (a b : Byte) : (s.putReply2 a b).txLen = 2 := rfl
@[simp] theorem State.putReply2_cur (a b : Byte) : (s.putReply2 a b).cur = s.cur := rfl
@[simp] theorem State.putReply2_handler (a b : Byte) : (s.putReply2 a b).handler = s.handler := rfl
@[simp] theorem State.putReply2_result (a b : Byte) : (s.putReply2 a b).result = s.result := rfl
@[simp] theorem State.putReply2_reply (a b : Byte) : (s.putReply2 a b).reply = s.reply := rfl
@[simp] theorem State.putReply2_pending (a b : Byte) : (s.putReply2 a b).pending = s.pending := rfl
@[simp] theorem State.putReply2_ext0 (a b : Byte) : (s.putReply2 a b).ext0 = s.ext0 := rfl
@[simp] theorem State.putReply2_ext1 (a b : Byte) : (s.putReply2 a b).ext1 = s.ext1 := rfl
@[simp] theorem State.putReply2_glue (a b : Byte) : (s.putReply2 a b).glue = s.glue := rfl
@[simp] theorem State.putReply2_agenda (a b : Byte) : (s.putReply2 a b).agenda = s.agenda := rfl
@[simp] theorem State.putReply2_draws (a b : Byte) : (s.putReply2 a b).draws = s.draws := rfl

/-! `deviceWrite`. -/

@[simp] theorem State.deviceWrite_grp0 (a b : Byte) : (s.deviceWrite a b).grp0 = s.grp0.writePins a := rfl
@[simp] theorem State.deviceWrite_grp1 (a b : Byte) : (s.deviceWrite a b).grp1 = s.grp1.writePins b := rfl
@[simp] theorem State.deviceWrite_sig (a b : Byte) : (s.deviceWrite a b).sig = s.sig := rfl
@[simp] theorem State.deviceWrite_int (a b : Byte) : (s.deviceWrite a b).int = s.int := rfl
@[simp] theorem State.deviceWrite_rx (a b : Byte) : (s.deviceWrite a b).rx = s.rx := rfl
@[simp] theorem State.deviceWrite_tx0 (a b : Byte) : (s.deviceWrite a b).tx0 = s.tx0 := rfl
@[simp] theorem State.deviceWrite_tx1 (a b : Byte) : (s.deviceWrite a b).tx1 = s.tx1 := rfl
@[simp] theorem State.deviceWrite_txLen (a b : Byte) : (s.deviceWrite a b).txLen = s.txLen := rfl
@[simp] theorem State.deviceWrite_cur (a b : Byte) : (s.deviceWrite a b).cur = s.cur := rfl
@[simp] theorem State.deviceWrite_handler (a b : Byte) : (s.deviceWrite a b).handler = s.handler := rfl
@[simp] theorem State.deviceWrite_result (a b : Byte) : (s.deviceWrite a b).result = s.result := rfl
@[simp] theorem State.deviceWrite_reply (a b : Byte) : (s.deviceWrite a b).reply = s.reply := rfl
@[simp] theorem State.deviceWrite_pending (a b : Byte) : (s.deviceWrite a b).pending = s.pending := rfl
@[simp] theorem State.deviceWrite_ext0 (a b : Byte) : (s.deviceWrite a b).ext0 = s.ext0 := rfl
@[simp] theorem State.deviceWrite_ext1 (a b : Byte) : (s.deviceWrite a b).ext1 = s.ext1 := rfl
@[simp] theorem State.deviceWrite_glue (a b : Byte) : (s.deviceWrite a b).glue = s.glue := rfl
@[simp] theorem State.deviceWrite_agenda (a b : Byte) : (s.deviceWrite a b).agenda = s.agenda := rfl
@[simp] theorem State.deviceWrite_draws (a b : Byte) : (s.deviceWrite a b).draws = s.draws := rfl

/-! `deviceSetPinModes`. -/

@[simp] theorem State.deviceSetPinModes_grp0 (a b : Byte) : (s.deviceSetPinModes a b).grp0 = s.grp0.setPinModes a := rfl
@[simp] theorem State.deviceSetPinModes_grp1 (a b : Byte) : (s.deviceSetPinModes a b).grp1 = s.grp1.setPinModes b := rfl
@[simp] theorem State.deviceSetPinModes_sig (a b : Byte) : (s.deviceSetPinModes a b).sig = s.sig := rfl
@[simp] theorem State.deviceSetPinModes_int (a b : Byte) : (s.deviceSetPinModes a b).int = s.int := rfl
@[simp] theorem State.deviceSetPinModes_rx (a b : Byte) : (s.deviceSetPinModes a b).rx = s.rx := rfl
@[simp] theorem State.deviceSetPinModes_tx0 (a b : Byte) : (s.deviceSetPinModes a b).tx0 = s.tx0 := rfl
@[simp] theorem State.deviceSetPinModes_tx1 (a b : Byte) : (s.deviceSetPinModes a b).tx1 = s.tx1 := rfl
@[simp] theorem State.deviceSetPinModes_txLen (a b : Byte) : (s.deviceSetPinModes a b).txLen = s.txLen := rfl
@[simp] theorem State.deviceSetPinModes_cur (a b : Byte) : (s.deviceSetPinModes a b).cur = s.cur := rfl
@[simp] theorem State.deviceSetPinModes_handler (a b : Byte) : (s.deviceSetPinModes a b).handler = s.handler := rfl
@[simp] theorem State.deviceSetPinModes_result (a b : Byte) : (s.deviceSetPinModes a b).result = s.result := rfl
@[simp] theorem State.deviceSetPinModes_reply (a b : Byte) : (s.deviceSetPinModes a b).reply = s.reply := rfl
@[simp] theorem State.deviceSetPinModes_pending (a b : Byte) : (s.deviceSetPinModes a b).pending = s.pending := rfl
@[simp] theorem State.deviceSetPinModes_ext0 (a b : Byte) : (s.deviceSetPinModes a b).ext0 = s.ext0 := rfl
@[simp] theorem State.deviceSetPinModes_ext1 (a b : Byte) : (s.deviceSetPinModes a b).ext1 = s.ext1 := rfl
@[simp] theorem State.deviceSetPinModes_glue (a b : Byte) : (s.deviceSetPinModes a b).glue = s.glue := rfl
@[simp] theorem State.deviceSetPinModes_agenda (a b : Byte) : (s.deviceSetPinModes a b).agenda = s.agenda := rfl
@[simp] theorem State.deviceSetPinModes_draws (a b : Byte) : (s.deviceSetPinModes a b).draws = s.draws := rfl

/-! `deviceSetPinPulls`. -/

@[simp] theorem State.deviceSetPinPulls_grp0 (a b : Byte) (q : Pull) : (s.deviceSetPinPulls a b q).grp0 = s.grp0.setPinPulls a q := rfl
@[simp] theorem State.deviceSetPinPulls_grp1 (a b : Byte) (q : Pull) : (s.deviceSetPinPulls a b q).grp1 = s.grp1.setPinPulls b q := rfl
@[simp] theorem State.deviceSetPinPulls_sig (a b : Byte) (q : Pull) : (s.deviceSetPinPulls a b q).sig = s.sig := rfl
@[simp] theorem State.deviceSetPinPulls_int (a b : Byte) (q : Pull) : (s.deviceSetPinPulls a b q).int = s.int := rfl
@[simp] theorem State.deviceSetPinPulls_rx (a b : Byte) (q : Pull) : (s.deviceSetPinPulls a b q).rx = s.rx := rfl
@[simp] theorem State.deviceSetPinPulls_tx0 (a b : Byte) (q : Pull) : (s.deviceSetPinPulls a b q).tx0 = s.tx0 := rfl
@[simp] theorem State.deviceSetPinPulls_tx1 (a b : Byte) (q : Pull) : (s.deviceSetPinPulls a b q).tx1 = s.tx1 := rfl
@[simp] theorem State.deviceSetPinPulls_txLen (a b : Byte) (q : Pull) : (s.deviceSetPinPulls a b q).txLen = s.txLen := rfl
@[simp] theorem State.deviceSetPinPulls_cur (a b : Byte) (q : Pull) : (s.deviceSetPinPulls a b q).cur = s.cur := rfl
@[simp] theorem State.deviceSetPinPulls_handler (a b : Byte) (q : Pull) : (s.deviceSetPinPulls a b q).handler = s.handler := rfl
@[simp] theorem State.deviceSetPinPulls_result (a b : Byte) (q : Pull) : (s.deviceSetPinPulls a b q).result = s.result := rfl
@[simp] theorem State.deviceSetPinPulls_reply (a b : Byte) (q : Pull) : (s.deviceSetPinPulls a b q).reply = s.reply := rfl
@[simp] theorem State.deviceSetPinPulls_pending (a b : Byte) (q : Pull) : (s.deviceSetPinPulls a b q).pending = s.pending := rfl
@[simp] theorem State.deviceSetPinPulls_ext0 (a b : Byte) (q : Pull) : (s.deviceSetPinPulls a b q).ext0 = s.ext0 := rfl
@[simp] theorem State.deviceSetPinPulls_ext1 (a b : Byte) (q : Pull) : (s.deviceSetPinPulls a b q).ext1 = s.ext1 := rfl
@[simp] theorem State.deviceSetPinPulls_glue (a b : Byte) (q : Pull) : (s.deviceSetPinPulls a b q).glue = s.glue := rfl
@[simp] theorem State.deviceSetPinPulls_agenda (a b : Byte) (q : Pull) : (s.deviceSetPinPulls a b q).agenda = s.agenda := rfl
@[simp] theorem State.deviceSetPinPulls_draws (a b : Byte) (q : Pull) : (s.deviceSetPinPulls a b q).draws = s.draws := rfl

/-! `loadCommand`. -/

@[simp] theorem State.loadCommand_grp0 (h : Handler) (bytes : List Byte) : (s.loadCommand h bytes).grp0 = s.grp0 := rfl
@[simp] theorem State.loadCommand_grp1 (h : Handler) (bytes : List Byte) : (s.loadCommand h bytes).grp1 = s.grp1 := rfl
@[simp] theorem State.loadCommand_sig (h : Handler) (bytes : List Byte) : (s.loadCommand h bytes).sig = s.sig := rfl
@[simp] theorem State.loadCommand_int (h : Handler) (bytes : List Byte) : (s.loadCommand h bytes).int = s.int := rfl
@[simp] theorem State.loadCommand_rx (h : Handler) (bytes : List Byte) : (s.loadCommand h bytes).rx = captureBytes bytes Config.rxMax := rfl
@[simp] theorem State.loadCommand_tx0 (h : Handler) (bytes : List Byte) : (s.loadCommand h bytes).tx0 = s.tx0 := rfl
@[simp] theorem State.loadCommand_tx1 (h : Handler) (bytes : List Byte) : (s.loadCommand h bytes).tx1 = s.tx1 := rfl
@[simp] theorem State.loadCommand_txLen (h : Handler) (bytes : List Byte) : (s.loadCommand h bytes).txLen = s.txLen := rfl
@[simp] theorem State.loadCommand_cur (h : Handler) (bytes : List Byte) : (s.loadCommand h bytes).cur = decodeCursor (captureBytes bytes Config.rxMax) := rfl
@[simp] theorem State.loadCommand_handler (h : Handler) (bytes : List Byte) : (s.loadCommand h bytes).handler = h := rfl
@[simp] theorem State.loadCommand_result (h : Handler) (bytes : List Byte) : (s.loadCommand h bytes).result = s.result := rfl
@[simp] theorem State.loadCommand_reply (h : Handler) (bytes : List Byte) : (s.loadCommand h bytes).reply = s.reply := rfl
@[simp] theorem State.loadCommand_pending (h : Handler) (bytes : List Byte) : (s.loadCommand h bytes).pending = s.pending := rfl
@[simp] theorem State.loadCommand_ext0 (h : Handler) (bytes : List Byte) : (s.loadCommand h bytes).ext0 = s.ext0 := rfl
@[simp] theorem State.loadCommand_ext1 (h : Handler) (bytes : List Byte) : (s.loadCommand h bytes).ext1 = s.ext1 := rfl
@[simp] theorem State.loadCommand_glue (h : Handler) (bytes : List Byte) : (s.loadCommand h bytes).glue = s.glue := rfl
@[simp] theorem State.loadCommand_agenda (h : Handler) (bytes : List Byte) : (s.loadCommand h bytes).agenda = s.agenda := rfl
@[simp] theorem State.loadCommand_draws (h : Handler) (bytes : List Byte) : (s.loadCommand h bytes).draws = s.draws := rfl

/-! Pin-group updates. -/

variable (p : PinGroup)

@[simp] theorem PinGroup.setPinModes_mode (m : Byte) : (p.setPinModes m).mode = m := rfl
@[simp] theorem PinGroup.setPinModes_out (m : Byte) : (p.setPinModes m).out = p.out := rfl
@[simp] theorem PinGroup.setPinModes_ep (m : Byte) : (p.setPinModes m).ep = p.ep := rfl
@[simp] theorem PinGroup.writePins_mode (v : Byte) : (p.writePins v).mode = p.mode := rfl
@[simp] theorem PinGroup.writePins_pull (v : Byte) : (p.writePins v).pull = p.pull := rfl
@[simp] theorem PinGroup.writePins_ep (v : Byte) : (p.writePins v).ep = p.ep := rfl
@[simp] theorem PinGroup.setPinPulls_mode (m : Byte) (q : Pull) : (p.setPinPulls m q).mode = p.mode := rfl
@[simp] theorem PinGroup.setPinPulls_out (m : Byte) (q : Pull) : (p.setPinPulls m q).out = p.out := rfl
@[simp] theorem PinGroup.setPinPulls_ep (m : Byte) (q : Pull) : (p.setPinPulls m q).ep = p.ep := rfl
@[simp] theorem PinGroup.latch_mode (e : Bool) : (p.latch e).mode = p.mode := rfl
@[simp] theorem PinGroup.latch_out (e : Bool) : (p.latch e).out = p.out := rfl
@[simp] theorem PinGroup.latch_pull (e : Bool) : (p.latch e).pull = p.pull := rfl
@[simp] theorem PinGroup.latch_ep (e : Bool) : (p.latch e).ep = (p.ep || e) := rfl

end Sys2Proof.Machine
end

