-- ==== Sys2Proof/Laws/Pins.lean ====
section
/-! SUPPORT. The pin-group primitives pin by pin: the bit or the pull that each leaves at pin `i`. -/

namespace Sys2Proof.Machine

/-- R98: bit `i` of a select. -/
theorem select_getLsbD (m a b : Byte) (i : Fin 8) :
    (select m a b).getLsbD i = if m.getLsbD i then a.getLsbD i else b.getLsbD i := by
  have hi : i.val < 8 := i.isLt
  cases h : m.getLsbD i <;>
    simp only [select, BitVec.getLsbD_or, BitVec.getLsbD_and, BitVec.getLsbD_not, h, hi] <;> simp

/-- R16: bit `i` of the sampled level. -/
theorem sampled_getLsbD (p : PinGroup) (ext : Vector Ext 8) (free : Byte) (i : Fin 8) :
    (sampled p ext free).getLsbD i = sampledBit ext[i] p.pull[i] (free.getLsbD i) := by
  simp [sampled]

/-- R17: bit `i` of the level. -/
theorem level_getLsbD (p : PinGroup) (ext : Vector Ext 8) (free : Byte) (i : Fin 8) :
    (level p ext free).getLsbD i =
      if p.mode.getLsbD i then p.out.getLsbD i else sampledBit ext[i] p.pull[i] (free.getLsbD i) := by
  rw [level, select_getLsbD, sampled_getLsbD]

/-- R90: the pull `set_pin_modes` leaves at pin `i`. -/
theorem PinGroup.setPinModes_pull_get (m : Byte) (p : PinGroup) (i : Fin 8) :
    (p.setPinModes m).pull[i] = if m.getLsbD i then p.pull[i] else .up := by
  simp [PinGroup.setPinModes, Config.defaultPull]

/-- R92: the bit `write_pins` leaves at pin `i`. -/
theorem PinGroup.writePins_out_get (v : Byte) (p : PinGroup) (i : Fin 8) :
    (p.writePins v).out.getLsbD i = if p.mode.getLsbD i then v.getLsbD i else p.out.getLsbD i :=
  select_getLsbD _ _ _ i

/-- R94: the pull `set_pin_pulls` leaves at pin `i`. -/
theorem PinGroup.setPinPulls_pull_get (mask : Byte) (q : Pull) (p : PinGroup) (i : Fin 8) :
    (p.setPinPulls mask q).pull[i] = if mask.getLsbD i then q else p.pull[i] := by
  simp [PinGroup.setPinPulls]

/-- R17: the level of the group is one the pins may read. -/
theorem definedLevel_level (p : PinGroup) (ext : Vector Ext 8) (free : Byte) (i : Fin 8) (v : Bool)
    (h : definedLevel p ext i = some v) : (level p ext free).getLsbD i = v := by
  rw [level_getLsbD]
  unfold definedLevel at h
  unfold sampledBit
  split at h <;> split <;> simp_all
  split at h <;> simp_all

/-- R179: where nothing changed there is no edge, whatever the free bits. -/
theorem movedWith_self (free : Byte) (p : PinGroup) (ext : Vector Ext 8) : movedWith free p p ext = false := by
  have hm : ∀ i, movedPin p p ext ext i = false := fun i => by
    unfold movedPin
    cases definedLevel p ext i <;> simp
  have hb : ∀ i, blurredPin p p ext ext i = false := fun i => by simp [blurredPin]
  simp [movedWith, hm, hb]

/-- R179: a group with the same configuration has no edge of its own making, whatever its latch. -/
theorem movedWith_congr (free : Byte) (p p' : PinGroup) (ext : Vector Ext 8)
    (hm : p'.mode = p.mode) (ho : p'.out = p.out) (hp : p'.pull = p.pull) : movedWith free p p' ext = false := by
  have e : movedWith free p p' ext = movedWith free p p ext := by
    simp only [movedWith, movedPin, blurredPin, definedLevel, hm, ho, hp]
  rw [e, movedWith_self]

/-- R179: no edge is latched in a group that has not changed. -/
theorem PinGroup.latch_false (p : PinGroup) : p.latch false = p := by
  simp [PinGroup.latch]

end Sys2Proof.Machine
end

