-- ==== Sys2Proof/Laws/Steps.lean ====
section
/-! SUPPORT. What the shared operations and one step can do, each said once. -/

namespace Sys2Proof.Machine

/-! The class checks. -/

theorem State.writeClass_write (c : Instr) (run : State → State) (s : State) (h : s.handler = .write) :
    s.writeClass c run = (run s).accept := by
  simp [State.writeClass, h]

theorem State.writeClass_writeRead (c : Instr) (run : State → State) (s : State) (h : s.handler = .writeRead) :
    s.writeClass c run = s.raise (.invalidWriteReadCmd c) := by
  simp [State.writeClass, h]

theorem State.readClass_writeRead (c : Instr) (run : State → State) (s : State) (h : s.handler = .writeRead) :
    s.readClass c run = (run s).accept := by
  simp [State.readClass, h]

theorem State.readClass_write (c : Instr) (run : State → State) (s : State) (h : s.handler = .write) :
    s.readClass c run = s.raise (.invalidWriteCmd c) := by
  simp [State.readClass, h]

/-- R118, R206: a write-class command runs, or is refused by its kind. -/
theorem State.writeClass_cases (c : Instr) (run : State → State) (s : State) :
    (s.handler = .writeRead ∧ s.writeClass c run = s.raise (.invalidWriteReadCmd c)) ∨
    (s.handler = .write ∧ s.writeClass c run = (run s).accept) := by
  cases h : s.handler
  · exact .inr ⟨rfl, State.writeClass_write _ _ _ h⟩
  · exact .inl ⟨rfl, State.writeClass_writeRead _ _ _ h⟩

/-- R120, R205: a read-class command runs, or is refused by its kind. -/
theorem State.readClass_cases (c : Instr) (run : State → State) (s : State) :
    (s.handler = .write ∧ s.readClass c run = s.raise (.invalidWriteCmd c)) ∨
    (s.handler = .writeRead ∧ s.readClass c run = (run s).accept) := by
  cases h : s.handler
  · exact .inl ⟨rfl, State.readClass_write _ _ _ h⟩
  · exact .inr ⟨rfl, State.readClass_writeRead _ _ _ h⟩

/-! The transaction-win step. -/

/-- R183: the end of a transaction leaves what the handler left, but for latched edges, the reply and the model's draw
counter; nothing is pending. -/
theorem State.endTransaction_shape (t : Transaction) (before s : State) :
    ∃ edge0 edge1 reply draws, State.endTransaction t before s = { s with
      grp0 := s.grp0.latch edge0, grp1 := s.grp1.latch edge1, reply := reply, draws := draws, pending := none } :=
  ⟨_, _, _, _, rfl⟩

/-- R186: with the spec's decision on priority, the bus service loop is enabled exactly while `SIG` is empty. -/
theorem State.bslEnabled_iff (s : State) : s.bslEnabled = true ↔ s.sig = none := by
  simp [State.bslEnabled, Config.strictPriority]

/-- R126: with the spec's decision on the optional clear, a transaction starts by changing nothing. -/
@[simp] theorem State.startTransaction_eq (s : State) : s.startTransaction = s := by
  simp [State.startTransaction, Config.clearOnAnyTransaction]

/-- R22: the receive buffer holds at most `RX_MAX` bytes. -/
theorem captureBytes_length (bytes : List Byte) (n : Nat) : (captureBytes bytes n).length = min bytes.length n := by
  induction bytes generalizing n with
  | nil => simp [captureBytes]
  | cons b bytes ih =>
    cases n with
    | zero => simp [captureBytes]
    | succ n => simp [captureBytes, ih]

/-- R183: the transaction-win step finds nothing to do, a bare read, a payload that does not decode, or a command. -/
theorem State.service_cases (s : State) :
    (s.service = .parked ∧ (s.sig ≠ none ∨ s.pending = none)) ∨
    (∃ k, s.sig = none ∧ s.pending = some (.read k) ∧ s.service = .handled (.read k) s.busRead) ∨
    (∃ t h bytes, s.sig = none ∧ s.pending = some t ∧
      ((h = .write ∧ t = .write bytes) ∨ (h = .writeRead ∧ ∃ k, t = .writeRead bytes k)) ∧
      s.service = s.decodePhase t h bytes) := by
  unfold State.service
  by_cases hs : s.sig = none
  · rw [if_pos ((State.bslEnabled_iff s).2 hs)]
    cases hp : s.pending with
    | none => exact .inl ⟨rfl, .inr rfl⟩
    | some t =>
      cases t with
      | write bytes =>
        exact .inr (.inr ⟨_, .write, bytes, hs, rfl, .inl ⟨rfl, rfl⟩, by simp⟩)
      | writeRead bytes k =>
        exact .inr (.inr ⟨_, .writeRead, bytes, hs, rfl, .inr ⟨rfl, k, rfl⟩, by simp⟩)
      | read k => exact .inr (.inl ⟨k, hs, rfl, by simp⟩)
  · rw [if_neg (fun h => hs ((State.bslEnabled_iff s).1 h))]
    exact .inl ⟨rfl, .inl hs⟩

/-- R117, R119, R204: decoding wraps an error or hands a command to its handler. -/
theorem State.decodePhase_cases (t : Transaction) (h : Handler) (bytes : List Byte) (s : State) :
    (∃ e, decode (captureBytes bytes Config.rxMax) = .error e ∧
      s.decodePhase t h bytes = .handled t ((s.loadCommand h bytes).raise (.failedToParseCmd e))) ∨
    (∃ i, decode (captureBytes bytes Config.rxMax) = .ok i ∧
      s.decodePhase t h bytes = .command t i (s.loadCommand h bytes)) := by
  unfold State.decodePhase
  rw [State.loadCommand_rx]
  cases decode (captureBytes bytes Config.rxMax) with
  | error e => exact .inl ⟨e, rfl, rfl⟩
  | ok i => exact .inr ⟨i, rfl, rfl⟩

/-! The other turns. -/

/-- R175: the driver copies a signalled level, or is parked. -/
theorem State.drvStep_cases (s : State) :
    (∃ v, s.sig = some v ∧ s.drvStep = { s with sig := none, int := v }) ∨ (s.sig = none ∧ s.drvStep = s) := by
  unfold State.drvStep State.wait
  cases h : s.sig <;> simp

/-- R181, R182: the edge-win step is parked, or clears a set latch and signals for group 0 alone. -/
theorem State.edgeWin_cases (g : Group) (s : State) :
    s.edgeWin g = s ∨
    (s.sig = none ∧ (s.grp g).ep = true ∧
      ((g = .g0 ∧ s.edgeWin g = { s with grp0 := { s.grp0 with ep := false }, sig := some true }) ∨
       (g = .g1 ∧ s.edgeWin g = { s with grp1 := { s.grp1 with ep := false } }))) := by
  unfold State.edgeWin
  by_cases h : s.sig = none
  · rw [if_pos ((State.bslEnabled_iff s).2 h)]
    cases he : (s.grp g).ep
    · exact .inl (by simp [PinGroup.waitForAnyEdge, he])
    · refine .inr ⟨h, rfl, ?_⟩
      cases g <;> simp_all [PinGroup.waitForAnyEdge, Config.trig, State.signal]
  · rw [if_neg (fun e => h ((State.bslEnabled_iff s).1 e))]
    exact .inl rfl

/-- R246: what the glue applies is what `SetIoModes` does to the pin groups, and it applies it once. -/
theorem State.glueStep_some (s : State) (m0 m1 : Byte) (h : s.glue = some (m0, m1)) :
    s.glueStep =
      { (State.latchSelfInduced Config.selfInducedEdges s (s.deviceSetPinModes m0 m1)) with glue := none } := by
  simp only [State.glueStep, h]

/-- R246: the glue has nothing to apply, or sets modes and pulls once and may latch edges. -/
theorem State.glueStep_cases (s : State) :
    s.glueStep = s ∨
    ∃ m0 m1 edge0 edge1, s.glue = some (m0, m1) ∧ s.glueStep = { s with
      grp0 := (s.grp0.setPinModes m0).latch edge0, grp1 := (s.grp1.setPinModes m1).latch edge1,
      glue := none, draws := s.draws + 2 } := by
  unfold State.glueStep
  cases h : s.glue with
  | none => exact .inl rfl
  | some m => exact .inr ⟨m.1, m.2, _, _, rfl, rfl⟩

/-- One more step of a run. -/
theorem run_succ (n : Nat) (s t : State) (h : step s = .next t) :
    Host.Core.run Sys2Proof.core (n + 1) s = Host.Core.run Sys2Proof.core n t := by
  have h' : Sys2Proof.core.step s = .next t := h
  simp only [Host.Core.run, h']

/-- R170: which step follows: the one of the turn. -/
theorem step_eq (s : State) :
    step s = if s.nextTurn.1 = .transaction then transactionStep s.nextTurn.2
      else .next (s.nextTurn.2.perform s.nextTurn.1) := by
  unfold step
  rcases s.nextTurn with ⟨turn, s'⟩
  cases turn <;> simp

/-- The turn is chosen without touching a cell of the block: only the agenda and the draw counter can move. -/
theorem State.nextTurn_frame (s : State) :
    ∃ agenda draws, s.nextTurn.2 = { s with agenda := agenda, draws := draws } := by
  unfold State.nextTurn
  split
  · exact ⟨_, _, rfl⟩
  · split
    · exact ⟨_, _, rfl⟩
    · split
      · exact ⟨_, _, rfl⟩
      · exact ⟨_, _, rfl⟩

end Sys2Proof.Machine
end

