-- ==== Sys2Proof/Laws/Exec.lean ====
section
/-! SUPPORT. What a command can do, said once for all ten: the next states of `exec`. -/

namespace Sys2Proof.Machine

/-- R117, R119: if `exec` answers a next state, then it is the state with an error noted, or the accepted effect of one of
the six shapes of command. -/
theorem exec_cases (c : Instr) (s t : State) (h : exec c s = .next t) :
    (∃ e, t = s.raise e) ∨
    (c = .readIoModes ∧ s.handler = .writeRead ∧ t = (s.putReply2 s.grp0.mode s.grp1.mode).accept) ∨
    (c = .readInputs1 ∧ s.handler = .writeRead ∧
      t = (((s.readPins .g0).2.putReply1 (s.readPins .g0).1).signal false).accept) ∨
    (c = .readInputs2 ∧ s.handler = .writeRead ∧ t = ((s.readPins .g1).2.putReply1 (s.readPins .g1).1).accept) ∨
    (∃ a b, c = .setIoModes a b ∧ s.handler = .write ∧ t = (s.deviceSetPinModes a b).accept) ∨
    (∃ a b, c = .writeAllOutputs a b ∧ s.handler = .write ∧ t = (s.deviceWrite a b).accept) ∨
    (∃ v g, (c = .writeOutputs1 v ∧ g = .g0 ∨ c = .writeOutputs2 v ∧ g = .g1) ∧ s.handler = .write ∧
      t = (s.onGrp g (PinGroup.writePins v)).accept) ∨
    (∃ a b q, c ∈ [Instr.setPullDowns a b, .setPullUps a b, .setPullNone a b] ∧ s.handler = .write ∧
      t = (s.deviceSetPinPulls a b q).accept) := by
  have wr : ∀ run, .next (s.writeClass c run) = (.next t : Host.Outcome State Fault Refusal) →
      (∃ e, t = s.raise e) ∨ (s.handler = .write ∧ t = (run s).accept) := by
    intro run h'
    injection h' with h'
    subst h'
    exact (s.writeClass_cases c run).imp (fun e => ⟨_, e.2⟩) id
  have rd : ∀ run, .next (s.readClass c run) = (.next t : Host.Outcome State Fault Refusal) →
      (∃ e, t = s.raise e) ∨ (s.handler = .writeRead ∧ t = (run s).accept) := by
    intro run h'
    injection h' with h'
    subst h'
    exact (s.readClass_cases c run).imp (fun e => ⟨_, e.2⟩) id
  cases c with
  | readIoModes => exact (rd _ h).imp id fun e => .inl ⟨rfl, e⟩
  | readInputs1 => exact (rd _ h).imp id fun e => .inr (.inl ⟨rfl, e⟩)
  | readInputs2 => exact (rd _ h).imp id fun e => .inr (.inr (.inl ⟨rfl, e⟩))
  | setIoModes a b => exact (wr _ h).imp id fun e => .inr (.inr (.inr (.inl ⟨a, b, rfl, e⟩)))
  | writeAllOutputs a b => exact (wr _ h).imp id fun e => .inr (.inr (.inr (.inr (.inl ⟨a, b, rfl, e⟩))))
  | writeOutputs1 v =>
    exact (wr _ h).imp id fun e => .inr (.inr (.inr (.inr (.inr (.inl ⟨v, .g0, .inl ⟨rfl, rfl⟩, e⟩)))))
  | writeOutputs2 v =>
    exact (wr _ h).imp id fun e => .inr (.inr (.inr (.inr (.inr (.inl ⟨v, .g1, .inr ⟨rfl, rfl⟩, e⟩)))))
  | setPullDowns a b =>
    exact (wr _ h).imp id fun e => .inr (.inr (.inr (.inr (.inr (.inr ⟨a, b, .down, by simp, e⟩)))))
  | setPullUps a b =>
    exact (wr _ h).imp id fun e => .inr (.inr (.inr (.inr (.inr (.inr ⟨a, b, .up, by simp, e⟩)))))
  | setPullNone a b =>
    exact (wr _ h).imp id fun e => .inr (.inr (.inr (.inr (.inr (.inr ⟨a, b, .none, by simp, e⟩)))))

/-- R116, R183: the transaction-win step is parked, ends a bare read, ends a decode failure, or runs a command and ends it. -/
theorem transactionStep_cases (s : State) :
    (transactionStep s = .next s ∧ (s.sig ≠ none ∨ s.pending = none)) ∨
    (∃ k, s.sig = none ∧ s.pending = some (.read k) ∧
      transactionStep s = .next (State.endTransaction (.read k) s s.busRead)) ∨
    (∃ t h bytes, s.sig = none ∧ s.pending = some t ∧
      ((h = .write ∧ t = .write bytes) ∨ (h = .writeRead ∧ ∃ k, t = .writeRead bytes k)) ∧
      ((∃ e, decode (captureBytes bytes Config.rxMax) = .error e ∧
          transactionStep s =
            .next (State.endTransaction t s ((s.loadCommand h bytes).raise (.failedToParseCmd e)))) ∨
       (∃ c, decode (captureBytes bytes Config.rxMax) = .ok c ∧
          transactionStep s = match exec c (s.loadCommand h bytes) with
            | .next s' => .next (State.endTransaction t s s')
            | .fault r => .fault r
            | .refused r => .refused r))) := by
  unfold transactionStep
  rcases s.service_cases with ⟨e, h⟩ | ⟨k, hs, hp, e⟩ | ⟨t, h, bytes, hs, hp, hk, e⟩
  · exact .inl ⟨by rw [e], h⟩
  · exact .inr (.inl ⟨k, hs, hp, by rw [e]⟩)
  · refine .inr (.inr ⟨t, h, bytes, hs, hp, hk, ?_⟩)
    rcases State.decodePhase_cases t h bytes s with ⟨er, hd, e'⟩ | ⟨c, hd, e'⟩
    · exact .inl ⟨er, hd, by rw [e, e']⟩
    · exact .inr ⟨c, hd, by rw [e, e'] <;> rfl⟩

end Sys2Proof.Machine
end

