-- ==== Sys2Proof/Laws/PerInstr.lean ====
section
/-! SUPPORT. What holds of every command as syntax, one lemma per constructor: its encoding has the length of its
format (R60), a payload the decoder's checks accept, and an opcode that is not reserved. -/

namespace Sys2Proof.Laws.WireForm

/-- R60, R62, R73: the encoding is the opcode and the payload of its arity, at most 3 bytes, and is well-formed. -/
def Statement (i : Instr) : Prop :=
  (encode i).length = 1 + arity i.opcode ∧ (encode i).length ≤ 3 ∧ payloadWellFormed (encode i) = true ∧
    reservedOpcode i.opcode = false ∧ i.wellFormed = true

theorem readIoModes : Statement .readIoModes :=
  ⟨rfl, by decide, rfl, rfl, rfl⟩
theorem writeAllOutputs (group0 group1 : Byte) : Statement (.writeAllOutputs group0 group1) :=
  ⟨rfl, Nat.le_refl 3, rfl, rfl, rfl⟩
theorem setIoModes (group0 group1 : Byte) : Statement (.setIoModes group0 group1) :=
  ⟨rfl, Nat.le_refl 3, rfl, rfl, rfl⟩
theorem writeOutputs1 (value : Byte) : Statement (.writeOutputs1 value) :=
  ⟨rfl, Nat.le_succ 2, rfl, rfl, rfl⟩
theorem writeOutputs2 (value : Byte) : Statement (.writeOutputs2 value) :=
  ⟨rfl, Nat.le_succ 2, rfl, rfl, rfl⟩
theorem readInputs1 : Statement .readInputs1 :=
  ⟨rfl, by decide, rfl, rfl, rfl⟩
theorem readInputs2 : Statement .readInputs2 :=
  ⟨rfl, by decide, rfl, rfl, rfl⟩
theorem setPullDowns (group0 group1 : Byte) : Statement (.setPullDowns group0 group1) :=
  ⟨rfl, Nat.le_refl 3, rfl, rfl, rfl⟩
theorem setPullUps (group0 group1 : Byte) : Statement (.setPullUps group0 group1) :=
  ⟨rfl, Nat.le_refl 3, rfl, rfl, rfl⟩
theorem setPullNone (group0 group1 : Byte) : Statement (.setPullNone group0 group1) :=
  ⟨rfl, Nat.le_refl 3, rfl, rfl, rfl⟩

end Sys2Proof.Laws.WireForm
end

