-- ==== Sys2Proof/Tests/Slice0.lean ====
section
/-! SUPPORT. The model's own tests, each one step or one decoding with the result the spec's vectors give
(`95_test_vectors.md`), and a witness for the hypotheses of every statement that has any. -/

namespace Sys2Proof.Tests

open Sys2Proof Sys2Proof.Machine

/-! Helpers. -/

/-- A group with these modes and driven levels, pulled up. -/
def group (mode out : Byte) : PinGroup where
  mode := mode
  out := out
  pull := Vector.replicate 8 .up
  ep := false

/-- The block after reset with no deployment default (D25). -/
def start : State := { State.reset with glue := none }

/-- A quiet, idle block with these modes and driven levels. -/
def block (mode0 mode1 out0 out1 : Byte) : State :=
  { start with grp0 := group mode0 out0, grp1 := group mode1 out1 }

/-- The next turn is this one. -/
def turn (t : Turn) (s : State) : State := { s with agenda := [t] }

/-- The next step services this transaction. -/
def serve (t : Transaction) (s : State) : State := turn .transaction { s with pending := some t }

/-- The state after one step. -/
def after (s : State) : State :=
  match step s with
  | .next t => t
  | .fault _ => s
  | .refused _ => s

/-- Nothing drives the pins but this one. -/
def drive (i : Fin 8) (e : Ext) : Vector Ext 8 := (Vector.replicate 8 .z).set i e

/-- Nothing drives the pins. -/
def quiet : Vector Ext 8 := Vector.replicate 8 .z

/-! Well-formedness: every command passes, and each check of a write phase refuses an ill-formed one. -/

theorem test_wellFormed_command : (Instr.setPullNone 0x81 0x7E).wellFormed = true := by decide
theorem test_illFormed_empty : payloadWellFormed [] = false := by decide
theorem test_illFormed_reserved : payloadWellFormed [0x04, 0x00, 0x00] = false := by decide
theorem test_illFormed_short_one : payloadWellFormed [0x11] = false := by decide
theorem test_illFormed_short_two : payloadWellFormed [0x02, 0x00] = false := by decide
theorem test_wellFormed_trailing : payloadWellFormed [0x21, 0xFF, 0xFF, 0xFF] = true := by decide

/-! Decoding: K1 to K10, one word per command, then trailing bytes (K11, K12), short buffers (K14, K15, K18). -/

theorem test_decode_readIoModes : decode [0x01] = .ok .readIoModes := rfl
theorem test_decode_readInputs1 : decode [0x21] = .ok .readInputs1 := rfl
theorem test_decode_readInputs2 : decode [0x22] = .ok .readInputs2 := rfl
theorem test_decode_writeOutputs1 : decode [0x11, 0xA5] = .ok (.writeOutputs1 0xA5) := rfl
theorem test_decode_writeOutputs2 : decode [0x12, 0x00] = .ok (.writeOutputs2 0x00) := rfl
theorem test_decode_writeAllOutputs : decode [0x02, 0x03, 0x0C] = .ok (.writeAllOutputs 0x03 0x0C) := rfl
theorem test_decode_setIoModes : decode [0x03, 0x04, 0xFF] = .ok (.setIoModes 0x04 0xFF) := rfl
theorem test_decode_setPullDowns : decode [0x30, 0xFF, 0x00] = .ok (.setPullDowns 0xFF 0x00) := rfl
theorem test_decode_setPullUps : decode [0x31, 0x00, 0xFF] = .ok (.setPullUps 0x00 0xFF) := rfl
theorem test_decode_setPullNone : decode [0x32, 0x81, 0x7E] = .ok (.setPullNone 0x81 0x7E) := rfl
theorem test_decode_trailing : decode [0x21, 0xFF, 0xFF, 0xFF] = .ok .readInputs1 := rfl
theorem test_decode_one_command : decode [0x11, 0x01, 0x12, 0x02] = .ok (.writeOutputs1 0x01) := rfl
theorem test_decode_empty : decode [] = .error .incomplete := rfl
theorem test_decode_short_one : decode [0x11] = .error .incomplete := rfl
theorem test_decode_short_two : decode [0x02, 0x00] = .error .incomplete := rfl

/-- The bits of the opcode byte, written out (R72: 0011 0010), and the payload bytes after it. -/
theorem test_decode_bits : decode [0b0011_0010, 0b1000_0001, 0b0111_1110] = .ok (.setPullNone 0x81 0x7E) := rfl

/-- K6 as a table word: the first byte is the least significant. -/
theorem test_table_word : decodeTableWord 24 0x0C0302 = some (.writeAllOutputs 0x03 0x0C) := rfl

/-- A placed word is what the next step runs, from reset: `SetIoModes 0x04, 0xFF` (M2). -/
theorem test_fetch_word : (after (start.withFetchWord 24 0xFF0403)).grp1.mode = 0xFF := rfl

/-! The commands, one step each. -/

/-- M2, second transaction. -/
theorem test_readIoModes :
    (after (serve (.writeRead [0x01] 2) (block 0x04 0xFF 0x00 0x00))).reply = [0x04, 0xFF] := rfl

/-- S8. -/
theorem test_readIoModes_on_write :
    (after (serve (.write [0x01]) (block 0x04 0xFF 0x00 0x00))).result = .error (.invalidWriteCmd .readIoModes) := rfl

/-- M2, first transaction. -/
theorem test_setIoModes : (after (serve (.write [0x03, 0x04, 0xFF]) start)).grp0.mode = 0x04 := rfl

/-- P15: pin 1, made an output, keeps its pull down; pins 0 and 2, inputs already, get the pull up. -/
theorem test_setIoModes_pulls :
    let p := (((group 0x00 0x00).setPinPulls 0x03 .down).setPinPulls 0x04 .none)
    let t := after (serve (.write [0x03, 0x02, 0x00]) { block 0x00 0x00 0x00 0x00 with grp0 := p })
    t.grp0.pull[0] = .up ∧ t.grp0.pull[1] = .down ∧ t.grp0.pull[2] = .up := ⟨rfl, rfl, rfl⟩

/-- O1. -/
theorem test_writeAllOutputs :
    let t := after (serve (.write [0x02, 0xFF, 0xA5]) (block 0x0F 0xFF 0x00 0x00))
    t.grp0.out = 0x0F ∧ t.grp1.out = 0xA5 := ⟨rfl, rfl⟩

/-- S9. -/
theorem test_writeAllOutputs_on_writeRead :
    let t := after (serve (.writeRead [0x02, 0x00, 0x00] 1) (block 0xFF 0xFF 0x05 0x05))
    t.result = .error (.invalidWriteReadCmd (.writeAllOutputs 0x00 0x00)) ∧ t.grp0.out = 0x05 := ⟨rfl, rfl⟩

/-- O3. -/
theorem test_writeOutputs1 :
    let t := after (serve (.write [0x11, 0xFF]) (block 0xF0 0x0F 0x00 0x00))
    t.grp0.out = 0xF0 ∧ t.grp1.out = 0x00 := ⟨rfl, rfl⟩

/-- O4. -/
theorem test_writeOutputs2 :
    let t := after (serve (.write [0x12, 0xFF]) (block 0xF0 0x01 0x00 0x00))
    t.grp0.out = 0x00 ∧ t.grp1.out = 0x01 := ⟨rfl, rfl⟩

/-- I4: the reply, the signal, and the interrupt pin as it was until the driver moves. -/
theorem test_readInputs1 :
    let t := after (serve (.writeRead [0x21] 1)
      { block 0x00 0x00 0x00 0x00 with ext0 := drive 2 .low, int := true })
    t.reply = [0xFB] ∧ t.sig = some false ∧ t.int = true := ⟨rfl, rfl, rfl⟩

/-- X8: the clear does not depend on the host's byte count. -/
theorem test_readInputs1_no_bytes :
    let t := after (serve (.writeRead [0x21] 0) (block 0x00 0x00 0x00 0x00))
    t.reply = [] ∧ t.sig = some false := ⟨rfl, rfl⟩

/-- I5. -/
theorem test_readInputs2 :
    let t := after (serve (.writeRead [0x22] 1)
      { block 0x00 0x00 0x00 0x00 with ext1 := drive 5 .low, int := true })
    t.reply = [0xDF] ∧ t.sig = none := ⟨rfl, rfl⟩

/-- L1, P19: what group 0 then reads. -/
theorem test_setPullDowns :
    level (after (serve (.write [0x30, 0x03, 0x00]) (block 0x00 0x00 0x00 0x00))).grp0 quiet 0xFF = 0xFC := rfl

/-- P20. -/
theorem test_setPullUps :
    let p := (group 0x00 0x00).setPinPulls 0xFF .down
    level (after (serve (.write [0x31, 0x0F, 0x00]) { block 0x00 0x00 0x00 0x00 with grp0 := p })).grp0 quiet 0xFF
      = 0x0F := rfl

/-- P12: pin 0 without a pull reads the free bit, the others their pull. -/
theorem test_setPullNone :
    let t := after (serve (.write [0x32, 0x01, 0x00]) (block 0x00 0x00 0x00 0x00))
    level t.grp0 quiet 0x00 = 0xFE ∧ level t.grp0 quiet 0xFF = 0xFF := ⟨rfl, rfl⟩

/-- P22: the pull of an output is set too. -/
theorem test_setPullNone_output :
    (after (serve (.write [0x32, 0x01, 0x00]) (block 0x01 0x00 0x00 0x00))).grp0.pull[0] = .none := rfl

/-- I6. -/
theorem test_busRead :
    (after (serve (.read 2) (block 0x0F 0x0F 0x05 0x0A))).reply = [0xF5, 0xFA] := rfl

/-- X12. -/
theorem test_busRead_no_bytes :
    let t := after (serve (.read 0) (block 0x00 0x00 0x00 0x00))
    t.reply = [] ∧ t.sig = some false := ⟨rfl, rfl⟩

/-- X3: the parse error comes before the class error. -/
theorem test_error_order :
    (after (serve (.writeRead [0x02, 0x00] 1) (block 0x00 0x00 0x00 0x00))).result
      = .error (.failedToParseCmd .incomplete) := rfl

/-! Pins: the examples of P3, P5, P10. -/

theorem test_writePins : ((group 0x81 0x7E).writePins 0x01).out = 0x7F := by decide
theorem test_level : level (group 0xF0 0x5A) ((quiet.set 3 .low).set 2 .high) 0x00 = 0x57 := rfl

/-! Edges, the signal register and the driver. -/

/-- E1: the edge, its win, the driver. -/
theorem test_edge_latched :
    (after (turn (.env (drive 2 .low) quiet false false) (block 0x00 0x00 0x00 0x00))).grp0.ep = true := by decide
theorem test_edge_win :
    let t := after (turn (.edge .g0)
      { block 0x00 0x00 0x00 0x00 with grp0 := { group 0x00 0x00 with ep := true } })
    t.grp0.ep = false ∧ t.sig = some true ∧ t.int = false := ⟨rfl, rfl, rfl⟩
theorem test_driver :
    let t := after (turn .drv { block 0x00 0x00 0x00 0x00 with sig := some true })
    t.sig = none ∧ t.int = true := ⟨rfl, rfl⟩

/-- E2: group 1 asserts nothing. -/
theorem test_edge_win_group1 :
    let t := after (turn (.edge .g1)
      { block 0x00 0x00 0x00 0x00 with grp1 := { group 0x00 0x00 with ep := true } })
    t.grp1.ep = false ∧ t.sig = none := ⟨rfl, rfl⟩

/-- E8: from undriven under pull-up to driven 1 is no edge. -/
theorem test_no_edge :
    (after (turn (.env (drive 0 .high) quiet false false) (block 0x00 0x00 0x00 0x00))).grp0.ep = false := by decide

/-- E9: no edge on an output pin. -/
theorem test_no_edge_output :
    (after (turn (.env (drive 0 .low) quiet false false) (block 0x01 0x00 0x01 0x00))).grp0.ep = false := by decide

/-- M6: the deployment default. -/
theorem test_glue : (after { start with glue := some (0x00, 0xFF) }).grp1.mode = 0xFF := rfl

/-! Witnesses: a concrete state and operands that meet the hypotheses of each statement, one for each clause that has its own. -/

/-- A state with this handler running. -/
def handling (h : Handler) : State := { block 0x0F 0xF0 0x00 0x00 with handler := h }

/-- One state in which each of these turns comes next. -/
theorem witness_turn (t : Turn) : (turn t start).nextTurn = (t, start) := rfl

theorem witness_DecodeUndoesEncode :
    decode [0x32, 0x81, 0x7E, 0x99] = .ok (.setPullNone 0x81 0x7E) ∧
    encode (.setPullNone 0x81 0x7E) = [0x32, 0x81, 0x7E] := ⟨rfl, rfl⟩
theorem witness_IncompleteExactlyWhenShort :
    0x21 ∈ opcodesF0 ∧ 0x12 ∈ opcodesF1 ∧ 0x32 ∈ opcodesF2 ∧ reservedOpcode 0x04 = true := by decide
theorem witness_BadInputExactlyWhenUnknown : reservedOpcode 0x04 = true := by decide

/-- The ends of the five ranges of R73, and their neighbours outside. -/
theorem witness_CommandExactlyWhenWellFormed :
    (∀ op ∈ ([0x00, 0x04, 0x10, 0x13, 0x20, 0x23, 0x2F, 0x33, 0xFF] : List Byte),
      op = 0x00 ∨ (0x04 ≤ op ∧ op ≤ 0x10) ∨ (0x13 ≤ op ∧ op ≤ 0x20) ∨ (0x23 ≤ op ∧ op ≤ 0x2F) ∨ 0x33 ≤ op) ∧
    (∀ op ∈ ([0x01, 0x03, 0x11, 0x12, 0x21, 0x22, 0x30, 0x32] : List Byte),
      ¬ (op = 0x00 ∨ (0x04 ≤ op ∧ op ≤ 0x10) ∨ (0x13 ≤ op ∧ op ≤ 0x20) ∨ (0x23 ≤ op ∧ op ≤ 0x2F) ∨ 0x33 ≤ op)) := by
  decide
theorem witness_DecoderIgnoresTrailingBytes : decode (0x11 :: [0xA5, 0x12]) = .ok (.writeOutputs1 0xA5) := rfl
theorem witness_CursorEndsAfterCommand : decode [0x02, 0x01, 0x02, 0x03] = .ok (.writeAllOutputs 0x01 0x02) := rfl
theorem witness_PinOrderDoesNotMatter : (List.finRange 8).reverse.Perm (List.finRange 8) := by decide
/-- P12: a group whose pin 0 floats may read 0 there. -/
theorem witness_LevelReadsEveryPin :
    GroupReads ((group 0x00 0x00).setPinPulls 0x01 .none) quiet 0xFE := by
  intro i
  fin_cases i <;> first | exact True.intro | exact rfl
theorem witness_WritesToInputsAreInvisible : (0x0F : Byte).getLsbD (7 : Fin 8) = false := by decide

/-- Two groups that differ in the pull of their output pin 0 alone. -/
theorem witness_PullOfOutputIsInvisible :
    let p := group 0x01 0x00
    let p' := (group 0x01 0x00).setPinPulls 0x01 .down
    p'.mode = p.mode ∧ p'.out = p.out ∧ (∀ i : Fin 8, p.mode.getLsbD i = false → p'.pull[i] = p.pull[i]) ∧ p' ≠ p := by
  decide

/-- The states of `ReadIoModesReplies` to `WriteClassIsIdempotent`: a Write and a WriteRead being handled. -/
theorem witness_handlers : (handling .write).handler = .write ∧ (handling .writeRead).handler = .writeRead := ⟨rfl, rfl⟩
theorem witness_PullCommandsSetMaskedPulls :
    (handling .write).handler = .write ∧ (Instr.setPullUps 0x0F 0xF0, Pull.up) ∈
      [(Instr.setPullDowns 0x0F 0xF0, Pull.down), (Instr.setPullUps 0x0F 0xF0, Pull.up),
        (Instr.setPullNone 0x0F 0xF0, Pull.none)] := by decide
theorem witness_WrongKindHasNoEffect :
    ((handling .write).handler = .write ∧ Instr.readInputs1.replyLength.isSome) ∧
    ((handling .writeRead).handler = .writeRead ∧ (Instr.setIoModes 0x00 0xFF).replyLength.isNone) := by decide

/-- A step for each clause of the frame. -/
theorem witness_CommandFrame_mode :
    ∃ t, exec (.setIoModes 0xFF 0xFF) (handling .write) = .next t ∧ t.grp0.mode ≠ (handling .write).grp0.mode :=
  ⟨_, rfl, by decide⟩
theorem witness_CommandFrame_out0 :
    ∃ t, exec (.writeOutputs1 0xFF) (handling .write) = .next t ∧ t.grp0.out ≠ (handling .write).grp0.out :=
  ⟨_, rfl, by decide⟩
theorem witness_CommandFrame_out1 :
    ∃ t, exec (.writeOutputs2 0xFF) (handling .write) = .next t ∧ t.grp1.out ≠ (handling .write).grp1.out :=
  ⟨_, rfl, by decide⟩
theorem witness_CommandFrame_pull :
    ∃ t, exec (.setPullNone 0xFF 0xFF) (handling .write) = .next t ∧ t.grp1.pull ≠ (handling .write).grp1.pull :=
  ⟨_, rfl, by decide⟩
theorem witness_CommandFrame_read :
    Instr.readIoModes.replyLength.isSome ∧ Instr.readIoModes ≠ .readInputs1 ∧
    ∃ t, exec .readIoModes (handling .writeRead) = .next t := ⟨by decide, by decide, _, rfl⟩
theorem witness_WriteClassIsIdempotent :
    (Instr.setPullDowns 0x0F 0x0F).replyLength.isNone ∧ (handling .write).handler = .write ∧
    ∃ t, exec (.setPullDowns 0x0F 0x0F) (handling .write) = .next t := ⟨by decide, rfl, _, rfl⟩

/-- A Write and a WriteRead with the handlers of their kinds, decoding to a command. -/
theorem witness_StepRunsDecodedCommand_write :
    ∃ u, (serve (.write [0x11, 0xFF]) start).nextTurn = (.transaction, u) ∧ u.sig = none ∧
      u.pending = some (.write [0x11, 0xFF]) ∧
      (Transaction.write [0x11, 0xFF] = .write [0x11, 0xFF] ∧ Handler.write = .write) ∧
      decode [0x11, 0xFF] = .ok (.writeOutputs1 0xFF) := ⟨_, rfl, rfl, rfl, ⟨rfl, rfl⟩, rfl⟩
theorem witness_StepRunsDecodedCommand_writeRead :
    ∃ u, (serve (.writeRead [0x22] 1) start).nextTurn = (.transaction, u) ∧ u.sig = none ∧
      u.pending = some (.writeRead [0x22] 1) ∧
      (Handler.writeRead = .writeRead ∧ ∃ k, Transaction.writeRead [0x22] 1 = .writeRead [0x22] k) ∧
      decode [0x22] = .ok .readInputs2 := ⟨_, rfl, rfl, rfl, ⟨rfl, _, rfl⟩, rfl⟩
theorem witness_StepRunsDecodedCommand_parked :
    let u : State := { start with sig := some true, pending := some (.read 2) }
    ((turn .transaction u).nextTurn = (.transaction, u) ∧ u.sig ≠ none) ∧
    ((turn .transaction start).nextTurn = (.transaction, start) ∧ start.pending = none) :=
  ⟨⟨rfl, by decide⟩, rfl, rfl⟩
theorem witness_HostReadsInputs :
    (∃ u, (serve (.writeRead (0x21 :: []) 0) start).nextTurn = (.transaction, u) ∧ u.sig = none ∧
      u.pending = some (.writeRead (0x21 :: []) 0)) ∧
    (∃ u, (serve (.writeRead (0x22 :: [0xFF]) 2) start).nextTurn = (.transaction, u) ∧ u.sig = none ∧
      u.pending = some (.writeRead (0x22 :: [0xFF]) 2)) := ⟨⟨_, rfl, rfl, rfl⟩, _, rfl, rfl, rfl⟩
theorem witness_HostReadsModes :
    ∃ u, (serve (.writeRead (0x01 :: [0x00]) 3) start).nextTurn = (.transaction, u) ∧ u.sig = none ∧
      u.pending = some (.writeRead (0x01 :: [0x00]) 3) := ⟨_, rfl, rfl, rfl⟩
theorem witness_BusReadReadsBothAndClears :
    ∃ u, (serve (.read 2) start).nextTurn = (.transaction, u) ∧ u.sig = none ∧ u.pending = some (.read 2) :=
  ⟨_, rfl, rfl, rfl⟩
theorem witness_ParseFailureChangesNothing_write :
    ∃ u, (serve (.write []) start).nextTurn = (.transaction, u) ∧ u.sig = none ∧ u.pending = some (.write []) ∧
      decode [] = .error .incomplete := ⟨_, rfl, rfl, rfl, rfl⟩
theorem witness_ParseFailureChangesNothing_writeRead :
    ∃ u, (serve (.writeRead [0x30, 0xFF] 2) start).nextTurn = (.transaction, u) ∧ u.sig = none ∧
      u.pending = some (.writeRead [0x30, 0xFF] 2) ∧ decode [0x30, 0xFF] = .error .incomplete :=
  ⟨_, rfl, rfl, rfl, rfl⟩

/-- `ErrorsHaveExactlyTheirCauses` and `ErrorChangesNoCell`: each of the three errors happens. -/
theorem witness_error_parse :
    ∃ u t, (serve (.write [0x03]) start).nextTurn = (.transaction, u) ∧ u.sig = none ∧
      u.pending = some (.write [0x03]) ∧ step (serve (.write [0x03]) start) = .next t ∧
      t.result = .error (.failedToParseCmd .incomplete) := ⟨_, _, rfl, rfl, rfl, rfl, rfl⟩
theorem witness_error_write :
    ∃ u t, (serve (.write [0x21]) start).nextTurn = (.transaction, u) ∧ u.sig = none ∧
      u.pending = some (.write [0x21]) ∧ step (serve (.write [0x21]) start) = .next t ∧
      t.result = .error (.invalidWriteCmd .readInputs1) := ⟨_, _, rfl, rfl, rfl, rfl, rfl⟩
theorem witness_error_writeRead :
    ∃ u t, (serve (.writeRead [0x12, 0x01] 0) start).nextTurn = (.transaction, u) ∧ u.sig = none ∧
      u.pending = some (.writeRead [0x12, 0x01] 0) ∧
      step (serve (.writeRead [0x12, 0x01] 0) start) = .next t ∧
      t.result = .error (.invalidWriteReadCmd (.writeOutputs2 0x01)) := ⟨_, _, rfl, rfl, rfl, rfl, rfl⟩
theorem witness_ReplyStartsWithValidBytes :
    let s : State := { start with result := .ok, txLen := 2 }
    s.result = .ok ∧ 2 ≤ s.txLen ∧ s.txLen ≤ 2 ∧ 1 < 2 ∧ 1 < s.validReply.length ∧ start.result ≠ .ok := by decide

/-- `DriverDrivesSignalledLevel`: the register full and empty. -/
theorem witness_DriverDrivesSignalledLevel :
    (turn .drv { start with sig := some true }).nextTurn = (.drv, { start with sig := some true }) ∧
    (turn .drv start).nextTurn = (.drv, start) ∧ start.sig = none := ⟨rfl, rfl, rfl⟩

theorem witness_InterruptPinFollowsInt :
    let u : State := { start with sig := some false, int := true }
    (turn .drv u).nextTurn = (.drv, u) ∧ u.sig = some false := ⟨rfl, rfl⟩

/-- `EdgeWinSignalsGroupZeroOnly`: latched in group 0, in group 1, not latched, and the driver first. -/
theorem witness_EdgeWin_group0 :
    let u : State := { start with grp0 := { group 0x00 0x00 with ep := true } }
    (turn (.edge .g0) u).nextTurn = (.edge .g0, u) ∧ u.sig = none ∧ u.grp0.ep = true := ⟨rfl, rfl, rfl⟩
theorem witness_EdgeWin_group1 :
    let u : State := { start with grp1 := { group 0x00 0x00 with ep := true } }
    (turn (.edge .g1) u).nextTurn = (.edge .g1, u) ∧ u.sig = none ∧ u.grp1.ep = true := ⟨rfl, rfl, rfl⟩
theorem witness_EdgeWin_parked :
    let u : State := { start with sig := some false, grp0 := { group 0x00 0x00 with ep := true } }
    (start.grp .g1).ep = false ∧ (turn (.edge .g0) u).nextTurn = (.edge .g0, u) ∧ u.sig ≠ none :=
  ⟨rfl, rfl, by decide⟩

/-- `EnvironmentLatchesEdges`: a pin that moves, and pins that all read as before. -/
theorem witness_EnvironmentLatchesEdges :
    let p := group 0x00 0x00
    (turn (.env (drive 2 .low) quiet false false) (block 0x00 0x00 0x00 0x00)).nextTurn =
      (.env (drive 2 .low) quiet false false, block 0x00 0x00 0x00 0x00) ∧
    (definedLevel p quiet 2 = some true ∧ definedLevel p (drive 2 .low) 2 = some (!true)) ∧
    (∀ i : Fin 8, definedLevel p quiet i = some true ∧ definedLevel p (drive 2 .high) i = some true) :=
  ⟨rfl, by decide, by decide⟩
theorem witness_OutputsMakeNoEnvironmentEdge :
    (turn (.env (drive 2 .low) quiet true true) (block 0xFF 0xFF 0x00 0x00)).nextTurn =
      (.env (drive 2 .low) quiet true true, block 0xFF 0xFF 0x00 0x00) ∧
    (block 0xFF 0xFF 0x00 0x00).grp0.mode = 0xFF ∧ (block 0xFF 0xFF 0x00 0x00).grp1.mode = 0xFF ∧
    ∃ t, step (turn (.env (drive 2 .low) quiet true true) (block 0xFF 0xFF 0x00 0x00)) = .next t :=
  ⟨rfl, rfl, rfl, _, rfl⟩
theorem witness_HostIssuesOneTransaction :
    (turn (.issue (.read 2)) start).nextTurn = (.issue (.read 2), start) ∧ start.pending = none ∧
    { start with pending := some (.read 1) }.pending ≠ none ∧
    (turn .abort start).nextTurn = (.abort, start) := ⟨rfl, rfl, by decide, rfl⟩

/-! Whole-machine rules: a step of the kind each speaks of. -/

theorem witness_StepKeepsBounds :
    let s := serve (.write [0x02, 0x01, 0x02]) start
    s.Inv ∧ ∃ t, step s = .next t :=
  ⟨⟨Nat.zero_le _, Nat.zero_le _, Nat.zero_le _, Nat.zero_le _⟩, _, rfl⟩
theorem witness_DrivenLevelChanges_out :
    let s := serve (.write [0x02, 0x01, 0x00]) (block 0x0F 0x00 0x00 0x00)
    ∃ t, step s = .next t ∧ (t.grp .g0).out.getLsbD (0 : Fin 8) ≠ (s.grp .g0).out.getLsbD (0 : Fin 8) :=
  ⟨_, rfl, by decide⟩
theorem witness_DrivenLevelChanges_config :
    let s := serve (.write [0x03, 0x00, 0x0F]) (block 0x00 0x00 0x00 0x00)
    ∃ t, step s = .next t ∧ ¬ (s.grp .g1).SameConfig (t.grp .g1) :=
  ⟨_, rfl, fun h => absurd h.1 (by decide)⟩

/-- A pending transaction stays, is serviced, is aborted. -/
theorem witness_PendingTransactionNeverLost :
    let s : State := { start with pending := some (.read 1) }
    (∃ t, step (turn (.issue (.read 2)) s) = .next t ∧ t.pending = some (.read 1)) ∧
    (∃ t, step (turn .transaction s) = .next t ∧ t.pending = none) ∧
    (∃ t, step (turn .abort s) = .next t ∧ t.pending = none) := ⟨⟨_, rfl, rfl⟩, ⟨_, rfl, rfl⟩, _, rfl, rfl⟩

/-- `InterruptPinMovesOnlyByDriver` and the second case of `SignalledLevelNeverLost`. -/
theorem witness_InterruptPinMoves :
    let s := turn .drv { start with sig := some true }
    s.sig = some true ∧ ∃ t, step s = .next t ∧ t.int ≠ s.int := ⟨rfl, _, rfl, by decide⟩

/-- Two other agents' turns before the driver's, and none at all; and an empty agenda, the glue's turn first. -/
theorem witness_SignalledLevelReachesPin :
    (∀ before ∈ ([[], [.edge .g0, .issue (.read 2)]] : List (List Turn)),
      let s : State := { start with sig := some true, agenda := before ++ .drv :: [.idle] }
      s.glue = none ∧ s.sig = some true ∧ (∀ a ∈ before, a ≠ .drv) ∧ s.agenda = before ++ .drv :: [.idle]) ∧
    (let s : State := { start with sig := some true, glue := some (0x0F, 0x0F) }
     s.agenda = [] ∧ s.sig = some true) := by decide

/-- The first case of `SignalledLevelNeverLost`: another agent's turn. -/
theorem witness_SignalledLevelStays :
    let s := serve (.read 2) { start with sig := some true }
    s.sig = some true ∧ ∃ t, step s = .next t ∧ t.sig = some true := ⟨rfl, _, rfl, rfl⟩
theorem witness_EdgeLatchCleared_group0 :
    let s := turn (.edge .g0) { start with grp0 := { group 0x00 0x00 with ep := true } }
    (s.grp .g0).ep = true ∧ ∃ t, step s = .next t ∧ (t.grp .g0).ep = false := ⟨rfl, _, rfl, rfl⟩
theorem witness_EdgeLatchCleared_group1 :
    let s := turn (.edge .g1) { start with grp1 := { group 0x00 0x00 with ep := true } }
    (s.grp .g1).ep = true ∧ ∃ t, step s = .next t ∧ (t.grp .g1).ep = false := ⟨rfl, _, rfl, rfl⟩
theorem witness_InterruptAssertedOnlyByGroupZero :
    let s := turn (.edge .g0) { start with grp0 := { group 0x00 0x00 with ep := true } }
    s.sig ≠ some true ∧ ∃ t, step s = .next t ∧ t.sig = some true := ⟨by decide, _, rfl, rfl⟩
theorem witness_InterruptCleared_busRead :
    let s := serve (.read 2) start
    s.sig ≠ some false ∧ ∃ t, step s = .next t ∧ t.sig = some false := ⟨by decide, _, rfl, rfl⟩
theorem witness_InterruptCleared_readInputs1 :
    let s := serve (.writeRead [0x21] 1) start
    s.sig ≠ some false ∧ ∃ t, step s = .next t ∧ t.sig = some false := ⟨by decide, _, rfl, rfl⟩

/-- A transaction that moves pin 0 of group 0, leaves group 1 as it is, and keeps every defined level there. -/
theorem witness_SelfInducedEdgesFollowLevelChanges :
    let s := serve (.write [0x30, 0x01, 0x00]) (block 0x00 0x00 0x00 0x00)
    s.nextTurn.1 = .transaction ∧ ∃ t, step s = .next t ∧
      definedLevel s.grp0 s.ext0 0 = some true ∧ definedLevel t.grp0 s.ext0 0 = some (!true) ∧
      (∀ i : Fin 8, definedLevel s.grp1 s.ext1 i = some true ∧ definedLevel t.grp1 s.ext1 i = some true) :=
  ⟨rfl, _, rfl, by decide, by decide, by decide⟩
/-- The same for the glue's step: pin 0 of group 0, driven low as an input, becomes an output driving 1. -/
theorem witness_SelfInducedEdgesFollowLevelChanges_glue :
    let s : State := { block 0x00 0x00 0x01 0x00 with ext0 := drive 0 .low, glue := some (0x01, 0x00) }
    s.nextTurn.1 = .glue ∧ ∃ t, step s = .next t ∧
      definedLevel s.grp0 s.ext0 0 = some false ∧ definedLevel t.grp0 s.ext0 0 = some (!false) ∧
      (∀ i : Fin 8, definedLevel s.grp1 s.ext1 i = some true ∧ definedLevel t.grp1 s.ext1 i = some true) :=
  ⟨rfl, _, rfl, by decide, by decide, by decide⟩
theorem witness_DeploymentDefaultComesFirst :
    { start with glue := some (0x00, 0xFF) }.glue = some (0x00, 0xFF) := rfl
theorem witness_LatchedEdgeReachesPin :
    let s : State := { start with grp0 := { group 0x00 0x00 with ep := true } }
    s.agenda = [] ∧ s.glue = none ∧ s.pending = none ∧ s.sig = none ∧ s.grp0.ep = true := ⟨rfl, rfl, rfl, rfl, rfl⟩
theorem witness_QuietWorldDrains :
    let s : State := { start with pending := some (.read 2), sig := some true, glue := some (0x0F, 0x0F) }
    s.agenda = [] := rfl

end Sys2Proof.Tests
end

section
/-! PROOF. The decoder (R60 to R71): what `assemble` and `decodeRun` can answer, and which bytes they look at. -/

namespace Sys2Proof

/-- R60, R62, R73: the wire form of every command, from its lemma for each constructor. -/
theorem wireForm (c : Instr) : Laws.WireForm.Statement c := by
  cases c with
  | readIoModes => exact Laws.WireForm.readIoModes
  | writeAllOutputs a b => exact Laws.WireForm.writeAllOutputs a b
  | setIoModes a b => exact Laws.WireForm.setIoModes a b
  | writeOutputs1 v => exact Laws.WireForm.writeOutputs1 v
  | writeOutputs2 v => exact Laws.WireForm.writeOutputs2 v
  | readInputs1 => exact Laws.WireForm.readInputs1
  | readInputs2 => exact Laws.WireForm.readInputs2
  | setPullDowns a b => exact Laws.WireForm.setPullDowns a b
  | setPullUps a b => exact Laws.WireForm.setPullUps a b
  | setPullNone a b => exact Laws.WireForm.setPullNone a b

theorem encode_length_eq_arity (c : Instr) : (encode c).length = 1 + arity c.opcode := (wireForm c).1

/-- R60, R68: no opcode has more than two payload bytes, whatever `UNKNOWN_ARITY`. -/
theorem arity_le_two (op : Byte) : arity op ≤ 2 := by
  unfold arity knownArity
  split
  next a h => split at h <;> simp at h <;> omega
  next => omega

theorem payload1_ok {make : Byte → Instr} {payload : List Byte} {c : Instr} (h : payload1 make payload = .ok c) :
    ∃ v rest, payload = v :: rest ∧ c = make v := by
  cases payload with
  | nil => simp [payload1] at h
  | cons v rest => exact ⟨v, rest, rfl, by simpa [payload1] using h.symm⟩

theorem payload2_ok {make : Byte → Byte → Instr} {payload : List Byte} {c : Instr}
    (h : payload2 make payload = .ok c) : ∃ a b rest, payload = a :: b :: rest ∧ c = make a b := by
  match payload with
  | [] => simp [payload2] at h
  | [_] => simp [payload2] at h
  | a :: b :: rest => exact ⟨a, b, rest, rfl, by simpa [payload2] using h.symm⟩

/-- R62, R72: an assembled command has the opcode it was assembled for, and its payload is what the payload bytes begin
with. -/
theorem assemble_ok {op : Byte} {payload : List Byte} {c : Instr} (h : assemble op payload = .ok c) :
    c.opcode = op ∧ ∃ trailing, payload = c.payload ++ trailing := by
  have nullary : ∀ i : Instr, i.payload = [] → ∃ trailing, payload = i.payload ++ trailing :=
    fun i hi => ⟨payload, by simp [hi]⟩
  unfold assemble at h
  split at h
  case h_1 => cases h; exact ⟨rfl, nullary _ rfl⟩
  case h_6 => cases h; exact ⟨rfl, nullary _ rfl⟩
  case h_7 => cases h; exact ⟨rfl, nullary _ rfl⟩
  case h_11 => cases h
  case h_4 | h_5 => obtain ⟨v, rest, rfl, rfl⟩ := payload1_ok h; exact ⟨rfl, rest, rfl⟩
  all_goals obtain ⟨a, b, rest, rfl, rfl⟩ := payload2_ok h; exact ⟨rfl, rest, rfl⟩

/-- R70: `assemble` looks at no more than two payload bytes. -/
theorem assemble_take (op : Byte) (payload : List Byte) {n : Nat} (hn : 2 ≤ n) :
    assemble op (payload.take n) = assemble op payload := by
  obtain ⟨m, rfl⟩ := Nat.exists_eq_add_of_le' hn
  have one : ∀ make, payload1 make (payload.take (m + 2)) = payload1 make payload := fun make => by
    cases payload <;> rfl
  have two : ∀ make, payload2 make (payload.take (m + 2)) = payload2 make payload := fun make => by
    match payload with
    | [] => rfl
    | [_] => rfl
    | _ :: _ :: _ => rfl
  simp only [assemble, one, two]

/-- R64, R65, R66: decoding stops before the first byte, stops after it with an error, or ends behind a command. -/
theorem decodeRun_cases (bytes : List Byte) :
    (bytes = [] ∧ decodeRun bytes = (0, .error .incomplete)) ∨
    (∃ op payload, bytes = op :: payload ∧
      ((∃ e, decodeRun bytes = (1, .error e)) ∨
       (∃ c, arity op ≤ payload.length ∧ assemble op payload = .ok c ∧ decodeRun bytes = (1 + arity op, .ok c)))) := by
  cases bytes with
  | nil => exact .inl ⟨rfl, rfl⟩
  | cons op payload =>
    refine .inr ⟨op, payload, rfl, ?_⟩
    by_cases hlen : payload.length < arity op
    · exact .inl ⟨.incomplete, by simp only [decodeRun, if_pos hlen]⟩
    · cases hasm : assemble op payload with
      | error e => exact .inl ⟨e, by simp only [decodeRun, if_neg hlen, hasm]⟩
      | ok c => exact .inr ⟨c, Nat.le_of_not_lt hlen, rfl, by simp only [decodeRun, if_neg hlen, hasm]⟩

/-- R60, R70: the decoder and its cursor depend on the first three bytes alone. -/
theorem decodeRun_take (bytes : List Byte) {n : Nat} (hn : 3 ≤ n) : decodeRun (bytes.take n) = decodeRun bytes := by
  obtain ⟨m, rfl⟩ := Nat.exists_eq_add_of_le' hn
  cases bytes with
  | nil => rfl
  | cons op payload =>
    have hlen : (payload.take (m + 2)).length < arity op ↔ payload.length < arity op := by
      have := arity_le_two op
      rw [List.length_take]
      omega
    simp only [List.take_succ_cons, decodeRun, hlen, assemble_take op payload (Nat.le_add_left 2 m)]

/-- R24: the cursor stays within the buffer. -/
theorem decodeCursor_le_length (bytes : List Byte) : decodeCursor bytes ≤ bytes.length := by
  unfold decodeCursor
  obtain ⟨rfl, hrun⟩ | ⟨op, payload, rfl, ⟨e, hrun⟩ | ⟨c, hlen, -, hrun⟩⟩ := decodeRun_cases bytes
  · simp [hrun]
  · simp [hrun]
  · simp only [hrun, List.length_cons]
    omega

/-- R24: the cursor is at most the length of the longest command. -/
theorem decodeCursor_le_three (bytes : List Byte) : decodeCursor bytes ≤ 3 := by
  unfold decodeCursor
  obtain ⟨-, hrun⟩ | ⟨op, payload, -, ⟨e, hrun⟩ | ⟨c, -, -, hrun⟩⟩ := decodeRun_cases bytes
  · simp [hrun]
  · simp [hrun]
  · have := arity_le_two op
    simp only [hrun]
    omega

/-- R24, R70: behind a decoded command the cursor stands at the end of the command's encoding. -/
theorem decodeCursor_of_decode_ok {bytes : List Byte} {c : Instr} (h : decode bytes = .ok c) :
    decodeCursor bytes = (encode c).length := by
  unfold decode at h
  unfold decodeCursor
  obtain ⟨-, hrun⟩ | ⟨op, payload, -, ⟨e, hrun⟩ | ⟨d, -, hasm, hrun⟩⟩ := decodeRun_cases bytes
  · simp [hrun] at h
  · simp [hrun] at h
  · obtain rfl : d = c := by simpa [hrun] using h
    obtain ⟨rfl, -⟩ := assemble_ok hasm
    rw [hrun, encode_length_eq_arity]

/-- Settles O8: the decoder's inversion gives the cursor in each of its cases. -/
theorem cursorEndsAfterCommand : Obligations.CursorEndsAfterCommand :=
  ⟨fun _ _ => decodeCursor_of_decode_ok, fun bytes => ⟨decodeCursor_le_length bytes, decodeCursor_le_three bytes⟩⟩

end Sys2Proof

namespace Sys2Proof.Machine

/-- R22: the receive buffer captures the first bytes. -/
theorem captureBytes_eq_take (bytes : List Byte) (n : Nat) : captureBytes bytes n = bytes.take n := by
  induction bytes generalizing n with
  | nil => simp [captureBytes]
  | cons b bytes ih => cases n <;> simp [captureBytes, ih]

/-- R22, R60: the buffer captures the longest command whole, so the decoder sees no difference. -/
theorem decodeRun_captureBytes (bytes : List Byte) :
    decodeRun (captureBytes bytes Config.rxMax) = decodeRun bytes := by
  rw [captureBytes_eq_take]
  exact decodeRun_take bytes (Nat.le_add_left 3 Config.rxExtra)

theorem decode_captureBytes (bytes : List Byte) : decode (captureBytes bytes Config.rxMax) = decode bytes :=
  congrArg Prod.snd (decodeRun_captureBytes bytes)

/-- Settles O9: the captured bytes are three or more, or the whole write phase, and the decoder looks at three. -/
theorem captureNeverMatters : Obligations.CaptureNeverMatters :=
  fun bytes => ⟨decode_captureBytes bytes, congrArg Prod.fst (decodeRun_captureBytes bytes)⟩

end Sys2Proof.Machine
end

section
/-! PROOF. The levels of a pin group (R16, R17) and its edges under the environment (R177, R178), pin by pin. -/

namespace Sys2Proof.Machine

/-- R42: two bytes that agree at every pin are the same. -/
theorem byte_eq_of_pins {a b : Byte} (h : ∀ i : Fin 8, a.getLsbD i = b.getLsbD i) : a = b :=
  BitVec.eq_of_getLsbD_eq fun i hi => h ⟨i, hi⟩

/-- R16: a sampled bit is one the line may be sampled at again. -/
@[simp] theorem sampledBit_idem (e : Ext) (q : Pull) (free : Bool) :
    sampledBit e q (sampledBit e q free) = sampledBit e q free := by
  cases e <;> cases q <;> rfl

/-- R16, R17: the levels a pin may read are those it shows when they are themselves the draw. -/
theorem pinReads_iff (p : PinGroup) (ext : Vector Ext 8) (i : Fin 8) (v : Bool) :
    PinReads p ext i v ↔ (if p.mode.getLsbD i then p.out.getLsbD i else sampledBit ext[i] p.pull[i] v) = v := by
  unfold PinReads
  split
  · exact eq_comm
  · cases ext[i] <;> cases p.pull[i] <;> simp [sampledBit, eq_comm]

/-- R93: whatever the draw, the level is a byte the group may read. -/
theorem groupReads_level (p : PinGroup) (ext : Vector Ext 8) (free : Byte) : GroupReads p ext (level p ext free) := by
  intro i
  rw [pinReads_iff, level_getLsbD]
  split
  · rfl
  · exact sampledBit_idem _ _ _

/-- R16, R93: a byte the group may read is the level when it is itself the draw. -/
theorem level_eq_of_groupReads {p : PinGroup} {ext : Vector Ext 8} {b : Byte} (h : GroupReads p ext b) :
    level p ext b = b :=
  byte_eq_of_pins fun i => by rw [level_getLsbD]; exact (pinReads_iff p ext i _).1 (h i)

/-- Settles O11: the level is admissible, and an admissible byte is its own draw. -/
theorem levelReadsEveryPin : Obligations.LevelReadsEveryPin :=
  fun p ext free => ⟨groupReads_level p ext free, fun b hb => ⟨b, level_eq_of_groupReads hb⟩⟩

/-- R17: the level depends on direction, driven level and the pulls of the inputs. -/
theorem level_congr {p p' : PinGroup} (hmode : p'.mode = p.mode) (hout : p'.out = p.out)
    (hpull : ∀ i : Fin 8, p.mode.getLsbD i = false → p'.pull[i] = p.pull[i]) (ext : Vector Ext 8) (free : Byte) :
    level p' ext free = level p ext free := by
  refine byte_eq_of_pins fun i => ?_
  rw [level_getLsbD, level_getLsbD, hmode, hout]
  cases hi : p.mode.getLsbD i with
  | true => rfl
  | false => rw [hpull i hi]

/-- Settles O13: the level looks at the pulls of inputs alone, and `set_pin_modes` gives every input the default pull. -/
theorem pullOfOutputIsInvisible : Obligations.PullOfOutputIsInvisible := by
  intro p p' hmode hout hpull
  refine ⟨level_congr hmode hout hpull, fun m => level_congr rfl hout fun i hi => ?_⟩
  rw [PinGroup.setPinModes_mode] at hi
  rw [PinGroup.setPinModes_pull_get, PinGroup.setPinModes_pull_get, hi]
  rfl

/-- R178: a pin that goes from one defined level to the other is an edge of its group. -/
theorem envLatches_of_edge {p : PinGroup} {ext ext' : Vector Ext 8} {i : Fin 8} {v : Bool} (noise : Bool)
    (h : definedLevel p ext i = some v) (h' : definedLevel p ext' i = some !v) :
    envLatches noise p ext ext' = true := by
  have hi : movedPin p p ext ext' i = true := by simp [movedPin, h, h']
  have hm : moved p p ext ext' = true := List.any_eq_true.2 ⟨i, List.mem_finRange i, hi⟩
  simp [envLatches, hm]

/-- R178: while every pin keeps a defined level there is no edge, and the noise has no floating pin to act on. -/
theorem envLatches_of_steady {p : PinGroup} {ext ext' : Vector Ext 8} (noise : Bool)
    (h : ∀ i : Fin 8, ∃ v, definedLevel p ext i = some v ∧ definedLevel p ext' i = some v) :
    envLatches noise p ext ext' = false := by
  have pin : ∀ i, movedPin p p ext ext' i = false ∧
      (definedLevel p ext i).isNone = false ∧ (definedLevel p ext' i).isNone = false := fun i => by
    obtain ⟨v, hv, hv'⟩ := h i
    simp [movedPin, hv, hv']
  simp [envLatches, moved, floating, pin]

end Sys2Proof.Machine
end

section
/-! PROOF. What one step can do: the turns, the transaction-win step and the commands by their next state. -/

namespace Sys2Proof.Machine

/-! The turn. -/

/-- R170: a turn that services no transaction is performed as it is. -/
theorem step_of_nextTurn {s u : State} {turn : Turn} (h : s.nextTurn = (turn, u)) (hturn : turn ≠ .transaction) :
    step s = .next (u.perform turn) := by
  rw [step_eq, h, if_neg hturn]

/-- R246: while a deployment default is to be applied the turn is the glue's. -/
theorem State.nextTurn_of_glue {s : State} {m : Byte × Byte} (h : s.glue = some m) : s.nextTurn = (.glue, s) := by
  simp only [State.nextTurn, h]

/-- R170: a step is the turn that comes next, taken in the state with the turn drawn from the agenda. -/
theorem step_next_cases {s t : State} (h : step s = .next t) :
    ∃ agenda draws,
      (s.nextTurn.1 = .transaction ∧ transactionStep { s with agenda := agenda, draws := draws } = .next t) ∨
      (s.nextTurn.1 ≠ .transaction ∧ t = State.perform s.nextTurn.1 { s with agenda := agenda, draws := draws }) := by
  obtain ⟨agenda, draws, hu⟩ := s.nextTurn_frame
  refine ⟨agenda, draws, ?_⟩
  rw [step_eq, hu] at h
  split at h
  next hturn => exact .inl ⟨hturn, h⟩
  next hturn => exact .inr ⟨hturn, by injection h with h; exact h.symm⟩

/-- R188: a turn that services no transaction is parked, or is one of the seven moves of an enabled agent. -/
theorem State.perform_cases (turn : Turn) (s : State) :
    s.perform turn = s ∨
    (∃ v, turn = .drv ∧ s.sig = some v ∧ s.perform turn = { s with sig := none, int := v }) ∨
    (turn = .edge .g0 ∧ s.sig = none ∧ s.grp0.ep = true ∧
      s.perform turn = { s with grp0 := { s.grp0 with ep := false }, sig := some true }) ∨
    (turn = .edge .g1 ∧ s.sig = none ∧ s.grp1.ep = true ∧
      s.perform turn = { s with grp1 := { s.grp1 with ep := false } }) ∨
    (∃ T, turn = .issue T ∧ s.pending = none ∧ s.perform turn = { s with pending := some T }) ∨
    (turn = .abort ∧ s.pending ≠ none ∧
      s.perform turn = { s with pending := none, result := .aborted, reply := [] }) ∨
    (∃ ext0 ext1 noise0 noise1, turn = .env ext0 ext1 noise0 noise1 ∧ s.perform turn = { s with
      grp0 := s.grp0.latch (envLatches noise0 s.grp0 s.ext0 ext0)
      grp1 := s.grp1.latch (envLatches noise1 s.grp1 s.ext1 ext1), ext0 := ext0, ext1 := ext1 }) ∨
    (∃ m0 m1 edge0 edge1, turn = .glue ∧ s.glue = some (m0, m1) ∧ s.perform turn = { s with
      grp0 := (s.grp0.setPinModes m0).latch edge0, grp1 := (s.grp1.setPinModes m1).latch edge1
      glue := none, draws := s.draws + 2 }) := by
  cases turn with
  | drv => exact s.drvStep_cases.symm.imp And.right fun ⟨v, hv, h⟩ => .inl ⟨v, rfl, hv, h⟩
  | edge g =>
    obtain h | ⟨hsig, hep, ⟨rfl, h⟩ | ⟨rfl, h⟩⟩ := s.edgeWin_cases g
    · exact .inl h
    · exact .inr (.inr (.inl ⟨rfl, hsig, hep, h⟩))
    · exact .inr (.inr (.inr (.inl ⟨rfl, hsig, hep, h⟩)))
  | transaction => exact .inl rfl
  | issue T =>
    cases hp : s.pending with
    | none => exact .inr (.inr (.inr (.inr (.inl ⟨T, rfl, rfl, by simp only [State.perform, State.hostIssue, hp]⟩))))
    | some T' => exact .inl (by simp only [State.perform, State.hostIssue, hp])
  | abort =>
    cases hp : s.pending with
    | none => exact .inl (by simp only [State.perform, State.hostAbort, hp])
    | some T =>
      exact .inr (.inr (.inr (.inr (.inr (.inl ⟨rfl, nofun, by simp only [State.perform, State.hostAbort, hp]⟩)))))
  | env ext0 ext1 noise0 noise1 =>
    exact .inr (.inr (.inr (.inr (.inr (.inr (.inl ⟨ext0, ext1, noise0, noise1, rfl, rfl⟩))))))
  | glue =>
    obtain h | ⟨m0, m1, edge0, edge1, hglue, h⟩ := s.glueStep_cases
    · exact .inl h
    · exact .inr (.inr (.inr (.inr (.inr (.inr (.inr ⟨m0, m1, edge0, edge1, rfl, hglue, h⟩))))))
  | idle => exact .inl rfl

/-! The transaction-win step. -/

/-- R183: the transaction-win step changes nothing, or ends a transaction after a bare read, a decode failure or a
command. -/
theorem transactionStep_next_cases {s t : State} (h : transactionStep s = .next t) :
    (t = s ∧ (s.sig ≠ none ∨ s.pending = none)) ∨
    ∃ T v, s.sig = none ∧ s.pending = some T ∧ t = State.endTransaction T s v ∧
      (v = s.busRead ∨
       (∃ hd bytes e, v = (s.loadCommand hd bytes).raise (.failedToParseCmd e)) ∨
       (∃ hd bytes c, exec c (s.loadCommand hd bytes) = .next v)) := by
  obtain ⟨heq, hparked⟩ | ⟨k, hs, hp, heq⟩ | ⟨T, hd, bytes, hs, hp, -, ⟨e, -, heq⟩ | ⟨c, -, heq⟩⟩ :=
    transactionStep_cases s
  · rw [heq] at h
    cases h
    exact .inl ⟨rfl, hparked⟩
  · rw [heq] at h
    cases h
    exact .inr ⟨_, _, hs, hp, rfl, .inl rfl⟩
  · rw [heq] at h
    cases h
    exact .inr ⟨_, _, hs, hp, rfl, .inr (.inl ⟨hd, bytes, e, rfl⟩)⟩
  · rw [heq] at h
    split at h
    next v hv =>
      cases h
      exact .inr ⟨_, v, hs, hp, rfl, .inr (.inr ⟨hd, bytes, c, hv⟩)⟩
    · cases h
    · cases h

/-- R93: reading the pins draws one free byte and leaves every cell. -/
@[simp] theorem State.readPins_snd (g : Group) (s : State) : (s.readPins g).2 = { s with draws := s.draws + 1 } := rfl

/-! The configuration of a pin group. -/

theorem PinGroup.SameConfig.rfl {p : PinGroup} : p.SameConfig p := ⟨Eq.refl _, Eq.refl _, Eq.refl _⟩

theorem PinGroup.sameConfig_latch (p : PinGroup) (edge : Bool) : p.SameConfig (p.latch edge) := .rfl

/-- R183: the end of a transaction writes no configuration. -/
theorem State.endTransaction_sameConfig (T : Transaction) (before s : State) (g : Group) :
    (s.grp g).SameConfig ((State.endTransaction T before s).grp g) := by
  cases g <;> exact .rfl

/-- R52: of the turns that service no transaction, only the glue's writes a configuration. -/
theorem State.perform_sameConfig {turn : Turn} (hturn : turn ≠ .glue) (s : State) (g : Group) :
    (s.grp g).SameConfig ((s.perform turn).grp g) := by
  obtain h | ⟨v, -, -, h⟩ | ⟨-, -, -, h⟩ | ⟨-, -, -, h⟩ | ⟨T, -, -, h⟩ | ⟨-, -, h⟩ | ⟨ext0, ext1, n0, n1, -, h⟩ |
    ⟨m0, m1, edge0, edge1, hglue, -, h⟩ := s.perform_cases turn
  case inr.inr.inr.inr.inr.inr.inr => exact absurd hglue hturn
  all_goals rw [h]; cases g <;> exact .rfl

/-! The driven levels. -/

/-- R14, R99: from `p` to `q` the driven level of an input pin is kept. -/
def PinGroup.KeepsInputLevels (p q : PinGroup) : Prop :=
  ∀ i : Fin 8, q.out.getLsbD i ≠ p.out.getLsbD i → p.mode.getLsbD i = true

theorem PinGroup.keepsInputLevels_of_out_eq {p q : PinGroup} (h : q.out = p.out) : p.KeepsInputLevels q :=
  fun _ hne => absurd (by rw [h]) hne

/-- R92: `write_pins` leaves the driven level of an input pin. -/
theorem PinGroup.keepsInputLevels_writePins (p : PinGroup) (v : Byte) : p.KeepsInputLevels (p.writePins v) := by
  intro i hne
  rw [PinGroup.writePins_out_get] at hne
  by_contra hi
  exact hne (if_neg hi)

/-- R14, R26: a command changes the driven level of no input pin. -/
theorem exec_keepsInputLevels {c : Instr} {s t : State} (h : exec c s = .next t) (g : Group) :
    (s.grp g).KeepsInputLevels (t.grp g) := by
  obtain ⟨e, rfl⟩ | ⟨-, -, rfl⟩ | ⟨-, -, rfl⟩ | ⟨-, -, rfl⟩ | ⟨a, b, -, -, rfl⟩ | ⟨a, b, -, -, rfl⟩ |
    ⟨v, g', -, -, rfl⟩ | ⟨a, b, q, -, -, rfl⟩ := exec_cases c s t h
  case inr.inr.inr.inr.inr.inl => cases g <;> exact PinGroup.keepsInputLevels_writePins _ _
  case inr.inr.inr.inr.inr.inr.inl =>
    cases g <;> cases g'
    · exact PinGroup.keepsInputLevels_writePins _ _
    · exact PinGroup.keepsInputLevels_of_out_eq rfl
    · exact PinGroup.keepsInputLevels_of_out_eq rfl
    · exact PinGroup.keepsInputLevels_writePins _ _
  all_goals cases g <;> exact PinGroup.keepsInputLevels_of_out_eq rfl

/-- R14, R183: nor does a transaction-win step. -/
theorem transactionStep_keepsInputLevels {s t : State} (h : transactionStep s = .next t) (g : Group) :
    (s.grp g).KeepsInputLevels (t.grp g) := by
  obtain ⟨rfl, -⟩ | ⟨T, v, -, -, rfl, hv⟩ := transactionStep_next_cases h
  · exact PinGroup.keepsInputLevels_of_out_eq rfl
  · obtain ⟨-, hout, -⟩ := State.endTransaction_sameConfig T s v g
    have handler : (s.grp g).KeepsInputLevels (v.grp g) := by
      obtain rfl | ⟨hd, bytes, e, rfl⟩ | ⟨hd, bytes, c, hexec⟩ := hv
      · cases g <;> exact PinGroup.keepsInputLevels_of_out_eq rfl
      · cases g <;> exact PinGroup.keepsInputLevels_of_out_eq rfl
      · have loaded : (s.loadCommand hd bytes).grp g = s.grp g := by cases g <;> rfl
        exact loaded ▸ exec_keepsInputLevels hexec g
    exact fun i hne => handler i (hout ▸ hne)

/-- R90, R246: no other turn writes a driven level at all. -/
theorem State.perform_out (turn : Turn) (s : State) (g : Group) : ((s.perform turn).grp g).out = (s.grp g).out := by
  obtain h | ⟨v, -, -, h⟩ | ⟨-, -, -, h⟩ | ⟨-, -, -, h⟩ | ⟨T, -, -, h⟩ | ⟨-, -, h⟩ | ⟨ext0, ext1, n0, n1, -, h⟩ |
    ⟨m0, m1, edge0, edge1, -, -, h⟩ := s.perform_cases turn
  all_goals cases g <;> simp [h]

/-- Settles O42: by the inversion of a step; a command writes driven levels through `write_pins` alone, and the
configuration is left by every turn but the transaction-win step and the glue's. -/
theorem drivenLevelChangesOnlyOnOutputs : Obligations.DrivenLevelChangesOnlyOnOutputs := by
  intro s t g h
  obtain ⟨agenda, draws, ⟨hturn, htrans⟩ | ⟨-, rfl⟩⟩ := step_next_cases h
  · have keeps := transactionStep_keepsInputLevels htrans g
    exact ⟨by cases g <;> exact keeps, fun _ => .inl hturn⟩
  · refine ⟨PinGroup.keepsInputLevels_of_out_eq ?_, fun hchanged => .inr ?_⟩
    · rw [State.perform_out]
      cases g <;> rfl
    · by_contra hglue
      have same := State.perform_sameConfig hglue { s with agenda := agenda, draws := draws } g
      exact hchanged (by cases g <;> exact same)

end Sys2Proof.Machine
end

section
/-! PROOF. The transient cells (R22 to R24) and the frame of the commands (R26, R50). -/

namespace Sys2Proof.Machine

/-! The frame of the commands. -/

/-- R26, R48: no command touches the interrupt pin, the edge latches, the receive buffer, the cursor, the pins' drivers or
what the host and the scheduler hold. -/
theorem exec_keeps_cells {c : Instr} {s t : State} (h : exec c s = .next t) :
    t.int = s.int ∧ t.grp0.ep = s.grp0.ep ∧ t.grp1.ep = s.grp1.ep ∧ t.rx = s.rx ∧ t.cur = s.cur ∧
      t.handler = s.handler ∧ t.reply = s.reply ∧ t.pending = s.pending ∧ t.ext0 = s.ext0 ∧ t.ext1 = s.ext1 ∧
      t.glue = s.glue ∧ t.agenda = s.agenda := by
  obtain ⟨e, rfl⟩ | ⟨-, -, rfl⟩ | ⟨-, -, rfl⟩ | ⟨-, -, rfl⟩ | ⟨a, b, -, -, rfl⟩ | ⟨a, b, -, -, rfl⟩ |
    ⟨v, _ | _, -, -, rfl⟩ | ⟨a, b, q, -, -, rfl⟩ := exec_cases c s t h <;>
    exact ⟨rfl, rfl, rfl, rfl, rfl, rfl, rfl, rfl, rfl, rfl, rfl, rfl⟩

/-- Settles O22: by the inversion of `exec`; each accepted effect shows which cells of R26 and R50 it writes. -/
theorem commandFrame : Obligations.CommandFrame := by
  intro c s t h
  refine ⟨exec_keeps_cells h, ?_⟩
  obtain ⟨e, rfl⟩ | ⟨rfl, -, rfl⟩ | ⟨rfl, -, rfl⟩ | ⟨rfl, -, rfl⟩ | ⟨a, b, rfl, -, rfl⟩ | ⟨a, b, rfl, -, rfl⟩ |
    ⟨v, g, ⟨rfl, rfl⟩ | ⟨rfl, rfl⟩, -, rfl⟩ | ⟨a, b, q, hmem, -, rfl⟩ := exec_cases c s t h
  case inr.inr.inr.inr.inr.inr.inr =>
    simp only [List.mem_cons, List.not_mem_nil, or_false] at hmem
    obtain rfl | rfl | rfl := hmem <;> simp [Instr.replyLength, Instr.opcode]
  all_goals simp [Instr.replyLength, Instr.opcode]

/-! The bounds of the transient cells. -/

/-- R22 to R24: the bounds speak of four cells, so a state that agrees with a bounded one in cursor and receive buffer and
has a `TXLEN` in range is bounded. -/
theorem State.Inv.of_eq {s t : State} (hs : s.Inv) (hcur : t.cur = s.cur) (hrx : t.rx = s.rx) (htx : t.txLen ≤ 2) :
    t.Inv := by
  obtain ⟨hcur3, hcurRx, hrxMax, -⟩ := hs
  exact ⟨hcur ▸ hcur3, hcur ▸ hrx ▸ hcurRx, hrx ▸ hrxMax, htx⟩

/-- R22 to R24: so does a state that agrees in all of them. -/
theorem State.Inv.of_cells {s t : State} (hs : s.Inv) (hcur : t.cur = s.cur) (hrx : t.rx = s.rx)
    (htx : t.txLen = s.txLen) : t.Inv := by
  have ⟨_, _, _, htxLen⟩ := hs
  exact hs.of_eq hcur hrx (htx ▸ htxLen)

/-- R23, R119: a command puts a reply of one or two bytes, or leaves the reply buffer. -/
theorem exec_txLen_le {c : Instr} {s t : State} (h : exec c s = .next t) (hs : s.txLen ≤ 2) : t.txLen ≤ 2 := by
  obtain ⟨e, rfl⟩ | ⟨-, -, rfl⟩ | ⟨-, -, rfl⟩ | ⟨-, -, rfl⟩ | ⟨a, b, -, -, rfl⟩ | ⟨a, b, -, -, rfl⟩ |
    ⟨v, _ | _, -, -, rfl⟩ | ⟨a, b, q, -, -, rfl⟩ := exec_cases c s t h <;>
    simp [hs]

/-- R24: a command moves neither cursor nor receive buffer. -/
theorem exec_inv {c : Instr} {s t : State} (h : exec c s = .next t) (hs : s.Inv) : t.Inv := by
  obtain ⟨-, -, -, hrx, hcur, -⟩ := exec_keeps_cells h
  have ⟨_, _, _, htx⟩ := hs
  exact hs.of_eq hcur hrx (exec_txLen_le h htx)

/-- R22, R24: loading a write phase sets receive buffer and cursor within their bounds, whatever they were. -/
theorem State.loadCommand_inv (hd : Handler) (bytes : List Byte) {s : State} (hs : s.Inv) :
    (s.loadCommand hd bytes).Inv := by
  obtain ⟨-, -, -, htx⟩ := hs
  refine ⟨decodeCursor_le_three _, decodeCursor_le_length _, ?_, htx⟩
  rw [State.loadCommand_rx, captureBytes_length]
  exact Nat.min_le_right _ _

/-- R22 to R24: the transaction-win step keeps the bounds. -/
theorem transactionStep_inv {s t : State} (h : transactionStep s = .next t) (hs : s.Inv) : t.Inv := by
  obtain ⟨rfl, -⟩ | ⟨T, v, -, -, rfl, hv⟩ := transactionStep_next_cases h
  · exact hs
  · have handler : v.Inv := by
      obtain rfl | ⟨hd, bytes, e, rfl⟩ | ⟨hd, bytes, c, hexec⟩ := hv
      · exact hs.of_eq rfl rfl (Nat.le_refl 2)
      · exact (State.loadCommand_inv hd bytes hs).of_cells rfl rfl rfl
      · exact exec_inv hexec (State.loadCommand_inv hd bytes hs)
    exact handler.of_cells rfl rfl rfl

/-- R22 to R24: no other turn touches the transient cells. -/
theorem State.perform_keeps_buffers (turn : Turn) (s : State) :
    (s.perform turn).cur = s.cur ∧ (s.perform turn).rx = s.rx ∧ (s.perform turn).txLen = s.txLen := by
  obtain h | ⟨v, -, -, h⟩ | ⟨-, -, -, h⟩ | ⟨-, -, -, h⟩ | ⟨T, -, -, h⟩ | ⟨-, -, h⟩ | ⟨ext0, ext1, n0, n1, -, h⟩ |
    ⟨m0, m1, edge0, edge1, -, -, h⟩ := s.perform_cases turn
  all_goals rw [h]; exact ⟨rfl, rfl, rfl⟩

/-- Settles O40: only loading a write phase sets cursor and receive buffer, only a reply sets `TXLEN`, and each within its
bounds. -/
theorem stepKeepsBounds : Obligations.StepKeepsBounds := by
  intro s t hs h
  obtain ⟨agenda, draws, ⟨-, htrans⟩ | ⟨-, rfl⟩⟩ := step_next_cases h
  · exact transactionStep_inv htrans (hs.of_cells rfl rfl rfl)
  · obtain ⟨hcur, hrx, htx⟩ := State.perform_keeps_buffers s.nextTurn.1 { s with agenda := agenda, draws := draws }
    exact hs.of_cells hcur hrx htx

/-- Settles O51: at reset the receive buffer is empty, and cursor and `TXLEN` are 0. -/
theorem resetMeetsBounds : Obligations.ResetMeetsBounds :=
  ⟨Nat.zero_le 3, Nat.le_refl 0, Nat.zero_le Config.rxMax, Nat.zero_le 2⟩

end Sys2Proof.Machine
end

section
/-! PROOF. The reply (R122), the environment (R178), the interrupt pin (R21), and reset with the start-up glue (R27,
R246). -/

namespace Sys2Proof.Machine

/-! The reply. -/

theorem State.validReply_of_ok {s : State} (h : s.result = .ok) : s.validReply = [s.tx0, s.tx1].take s.txLen := by
  simp only [State.validReply, h]

theorem State.validReply_of_not_ok {s : State} (h : s.result ≠ .ok) : s.validReply = [] := by
  cases hr : s.result with
  | ok => exact absurd hr h
  | none | error e | aborted => simp only [State.validReply, hr]

theorem freeBytes_length (d n : Nat) : (freeBytes d n).length = n := by simp [freeBytes]

theorem State.sendReply_reply (k : Nat) (s : State) :
    (s.sendReply k).reply = s.validReply.take k ++ freeBytes s.draws (k - s.validReply.length) := rfl

/-- R122: the host gets exactly the bytes it clocks. -/
theorem State.sendReply_length (k : Nat) (s : State) : (s.sendReply k).reply.length = k := by
  rw [State.sendReply_reply, List.length_append, List.length_take, freeBytes_length]
  omega

/-- R122: the valid bytes come first, in order. -/
theorem State.sendReply_getElem? {k j : Nat} {s : State} (hk : j < k) (hj : j < s.validReply.length) :
    (s.sendReply k).reply[j]? = s.validReply[j]? := by
  have hlt : j < (s.validReply.take k).length := by
    rw [List.length_take]
    omega
  rw [State.sendReply_reply, List.getElem?_append_left hlt, List.getElem?_take_of_lt hk]

/-- R122: a reply no longer than the valid bytes is the first of them. -/
theorem State.sendReply_of_le {k : Nat} {s : State} (hk : k ≤ s.validReply.length) :
    (s.sendReply k).reply = s.validReply.take k := by
  rw [State.sendReply_reply, Nat.sub_eq_zero_of_le hk]
  exact List.append_nil _

/-- Settles O31: the clauses are the lemmas above; within two bytes the first `k` of the first `TXLEN` are the first `k`. -/
theorem replyStartsWithValidBytes : Obligations.ReplyStartsWithValidBytes := by
  intro s k
  refine ⟨State.validReply_of_ok, State.validReply_of_not_ok, s.sendReply_length k,
    fun j => State.sendReply_getElem?, fun hok hk htx => ?_⟩
  have hvalid := State.validReply_of_ok hok
  have hlen : s.validReply.length = s.txLen := by
    rw [hvalid, List.length_take]
    exact Nat.min_eq_left htx
  rw [State.sendReply_of_le (hlen ▸ hk), hvalid, List.take_take, Nat.min_eq_left hk]

/-! The environment. -/

/-- Settles O36: each latch is joined with the edges of its group, which the lemmas on `envLatches` decide. -/
theorem environmentLatchesEdges : Obligations.EnvironmentLatchesEdges := by
  intro s u e0 e1 n0 n1 h
  refine ⟨u.grp0.ep || envLatches n0 u.grp0 u.ext0 e0, u.grp1.ep || envLatches n1 u.grp1 u.ext1 e1,
    step_of_nextTurn h nofun, ?_, ?_, ?_, ?_, ?_, ?_⟩
  · exact fun hep => by rw [hep, Bool.true_or]
  · exact fun hep => by rw [hep, Bool.true_or]
  · exact fun i ⟨v, hv, hv'⟩ => by rw [envLatches_of_edge n0 hv hv', Bool.or_true]
  · exact fun i ⟨v, hv, hv'⟩ => by rw [envLatches_of_edge n1 hv hv', Bool.or_true]
  · exact fun hsteady => by rw [envLatches_of_steady n0 hsteady, Bool.or_false]
  · exact fun hsteady => by rw [envLatches_of_steady n1 hsteady, Bool.or_false]

/-! The interrupt pin. -/

/-- R21: with the spec's decision on its polarity, the pin stands at the level of `INT`. -/
@[simp] theorem State.intPin_eq (s : State) : s.intPin = s.int := rfl

/-- Settles O34: the driver leaves the signalled level in `INT`, where the pin stands. -/
theorem interruptPinFollowsInt : Obligations.InterruptPinFollowsInt := by
  refine ⟨State.intPin_eq, fun s u v h hsig => ⟨u.drvStep, step_of_nextTurn h nofun, ?_⟩⟩
  obtain ⟨w, hw, hdrv⟩ | ⟨hnone, -⟩ := u.drvStep_cases
  · rw [hdrv, State.intPin_eq]
    exact Option.some.inj (hw.symm.trans hsig)
  · rw [hnone] at hsig
    cases hsig

/-! Reset and the start-up glue. -/

/-- R27, R6: every pin of a group is pulled up at reset. -/
theorem PinGroup.reset_pull (g : Group) (i : Fin 8) : (PinGroup.reset g).pull[i] = .up := by
  simp [PinGroup.reset, Config.defaultPull]

/-- Settles O50: the cells of the reset state, with the pulls pin by pin. -/
theorem resetConfiguration : Obligations.ResetConfiguration :=
  ⟨rfl, rfl, fun i => ⟨PinGroup.reset_pull .g0 i, PinGroup.reset_pull .g1 i⟩, rfl, rfl, rfl, rfl, rfl, rfl, rfl⟩

/-- Settles O54: the next turn is the glue's, and what it applies is `set_pin_modes` on both groups. -/
theorem deploymentDefaultComesFirst : Obligations.DeploymentDefaultComesFirst := by
  intro s m0 m1 h
  have hstep : step s = .next s.glueStep := step_of_nextTurn (State.nextTurn_of_glue h) nofun
  rw [State.glueStep_some s m0 m1 h] at hstep
  exact ⟨_, hstep, rfl, rfl, rfl, rfl, rfl, PinGroup.sameConfig_latch _ _, PinGroup.sameConfig_latch _ _,
    fun i => ⟨PinGroup.setPinModes_pull_get m0 s.grp0 i, PinGroup.setPinModes_pull_get m1 s.grp1 i⟩⟩

end Sys2Proof.Machine
end

section
/-! PROOF. The signalled level on its way to the interrupt pin (R53, R186, R191). -/

namespace Sys2Proof.Machine

/-! While a level is signalled. -/

/-- R186: while a level is signalled the bus service loop is parked. -/
theorem transactionStep_of_sig {s : State} {v : Bool} (hsig : s.sig = some v) : transactionStep s = .next s := by
  obtain ⟨h, -⟩ | ⟨k, hnone, -⟩ | ⟨T, hd, bytes, hnone, -⟩ := transactionStep_cases s
  · exact h
  all_goals exact absurd (hsig.symm.trans hnone) nofun

/-- R170, R186: so every step is the plain performance of its turn. -/
theorem step_of_sig {s u : State} {turn : Turn} {v : Bool} (h : s.nextTurn = (turn, u)) (hsig : u.sig = some v) :
    step s = .next (u.perform turn) := by
  by_cases hturn : turn = .transaction
  · subst hturn
    rw [step_eq, h, if_pos rfl]
    exact transactionStep_of_sig hsig
  · exact step_of_nextTurn h hturn

/-- R175: the driver's turn moves the signalled level to the interrupt pin. -/
theorem step_drv_of_sig {s u : State} {v : Bool} (h : s.nextTurn = (.drv, u)) (hsig : u.sig = some v) :
    step s = .next { u with sig := none, int := v } := by
  rw [step_of_nextTurn h nofun]
  simp only [State.perform, State.drvStep, State.wait, hsig]

/-- R53, R186: no other agent's turn touches a signalled level or the interrupt pin. -/
theorem State.perform_keeps_sig {s : State} {turn : Turn} {v : Bool} (hsig : s.sig = some v) (hturn : turn ≠ .drv) :
    (s.perform turn).sig = some v ∧ (s.perform turn).int = s.int := by
  obtain h | ⟨_, hdrv, -, -⟩ | ⟨-, hnone, -, -⟩ | ⟨-, hnone, -, -⟩ | ⟨T, -, -, h⟩ | ⟨-, -, h⟩ |
    ⟨ext0, ext1, n0, n1, -, h⟩ | ⟨m0, m1, edge0, edge1, -, -, h⟩ := s.perform_cases turn
  case inr.inl => exact absurd hdrv hturn
  case inr.inr.inl | inr.inr.inr.inl => exact absurd (hsig.symm.trans hnone) nofun
  all_goals rw [h]; exact ⟨hsig, rfl⟩

/-- R184, R246: performing a turn leaves the agenda and brings no deployment default back. -/
theorem State.perform_keeps_schedule (turn : Turn) (s : State) :
    (s.perform turn).agenda = s.agenda ∧ (s.glue = none → (s.perform turn).glue = none) := by
  obtain h | ⟨v, -, -, h⟩ | ⟨-, -, -, h⟩ | ⟨-, -, -, h⟩ | ⟨T, -, -, h⟩ | ⟨-, -, h⟩ | ⟨ext0, ext1, n0, n1, -, h⟩ |
    ⟨m0, m1, edge0, edge1, -, -, h⟩ := s.perform_cases turn
  case inr.inr.inr.inr.inr.inr.inr => rw [h]; exact ⟨rfl, fun _ => rfl⟩
  all_goals rw [h]; exact ⟨rfl, id⟩

/-- Settles O44: by the turn; the driver's moves the level to the pin, and every other leaves both. -/
theorem signalledLevelNeverLost : Obligations.SignalledLevelNeverLost := by
  intro s t v hsig h
  obtain ⟨agenda, draws, hframe⟩ := s.nextTurn_frame
  cases hnext : s.nextTurn with
  | mk turn u =>
    obtain rfl : u = { s with agenda := agenda, draws := draws } := by rw [← hframe, hnext]
    by_cases hdrv : turn = .drv
    · subst hdrv
      cases (step_drv_of_sig hnext hsig).symm.trans h
      exact .inr ⟨rfl, rfl⟩
    · cases (step_of_sig hnext hsig).symm.trans h
      exact .inl (State.perform_keeps_sig hsig hdrv)

/-! The turns before the driver's. -/

/-- R184: without a deployment default to apply, the first turn of the agenda comes next. -/
theorem State.nextTurn_of_agenda {s : State} {turn : Turn} {rest : List Turn} (hglue : s.glue = none)
    (hagenda : s.agenda = turn :: rest) : s.nextTurn = (turn, { s with agenda := rest }) := by
  simp only [State.nextTurn, hglue, hagenda]

/-- R180, R186: with nothing outside moving, the driver's turn comes next while a level is signalled. -/
theorem State.nextTurn_of_sig {s : State} {v : Bool} (hglue : s.glue = none) (hagenda : s.agenda = [])
    (hsig : s.sig = some v) : s.nextTurn = (.drv, { s with draws := s.draws + 1 }) := by
  simp [State.nextTurn, hglue, hagenda, State.ownTurn, hsig]

/-- R53, R191: whatever turns of other agents come first, the driver's turn drives the signalled level. -/
theorem run_to_driver_turn {v : Bool} {rest : List Turn} (before : List Turn) {s : State} (hglue : s.glue = none)
    (hsig : s.sig = some v) (hother : ∀ a ∈ before, a ≠ .drv) (hagenda : s.agenda = before ++ .drv :: rest) :
    ∃ t, Host.Core.run core (before.length + 1) s = .next t ∧ t.sig = none ∧ t.int = v ∧ t.agenda = rest := by
  induction before generalizing s with
  | nil => exact ⟨_, run_succ 0 _ _ (step_drv_of_sig (State.nextTurn_of_agenda hglue hagenda) hsig), rfl, rfl, rfl⟩
  | cons turn before ih =>
    obtain ⟨hturn, hrest⟩ := List.forall_mem_cons.1 hother
    have hstep := step_of_sig (State.nextTurn_of_agenda hglue hagenda) hsig
    obtain ⟨hagenda', hglue'⟩ := State.perform_keeps_schedule turn { s with agenda := before ++ .drv :: rest }
    obtain ⟨hkept, -⟩ := State.perform_keeps_sig (s := { s with agenda := before ++ .drv :: rest }) hsig hturn
    rw [List.length_cons, run_succ _ _ _ hstep]
    exact ih (hglue' hglue) hkept hrest hagenda'

/-! The step after the driver's. -/

/-- R208: every command answers a next state. -/
theorem exec_total (c : Instr) (s : State) : ∃ t, exec c s = .next t := by
  cases c <;> exact ⟨_, rfl⟩

/-- R188, R208: so does the transaction-win step. -/
theorem transactionStep_total (s : State) : ∃ t, transactionStep s = .next t := by
  obtain ⟨h, -⟩ | ⟨k, -, -, h⟩ | ⟨T, hd, bytes, -, -, -, ⟨e, -, h⟩ | ⟨c, -, h⟩⟩ := transactionStep_cases s
  case inr.inr.inr =>
    obtain ⟨v, hv⟩ := exec_total c (s.loadCommand hd bytes)
    exact ⟨_, by rw [h, hv]⟩
  all_goals exact ⟨_, h⟩

/-- R188, R208: and every step. -/
theorem step_total (s : State) : ∃ t, step s = .next t := by
  rw [step_eq]
  split
  · exact transactionStep_total _
  · exact ⟨_, rfl⟩

/-- R176: the transaction-win step does not move the interrupt pin. -/
theorem transactionStep_int {s t : State} (h : transactionStep s = .next t) : t.int = s.int := by
  obtain ⟨rfl, -⟩ | ⟨T, v, -, -, rfl, hv⟩ := transactionStep_next_cases h
  · rfl
  · have handler : v.int = s.int := by
      obtain rfl | ⟨hd, bytes, e, rfl⟩ | ⟨hd, bytes, c, hexec⟩ := hv
      · rfl
      · rfl
      · exact (exec_keeps_cells hexec).1
    exact handler

/-- R172, R176: while nothing is signalled no turn moves the interrupt pin. -/
theorem State.perform_int_of_sig_none {s : State} (turn : Turn) (hsig : s.sig = none) :
    (s.perform turn).int = s.int := by
  obtain h | ⟨v, -, hsome, -⟩ | ⟨-, -, -, h⟩ | ⟨-, -, -, h⟩ | ⟨T, -, -, h⟩ | ⟨-, -, h⟩ | ⟨ext0, ext1, n0, n1, -, h⟩ |
    ⟨m0, m1, edge0, edge1, -, -, h⟩ := s.perform_cases turn
  case inr.inl => exact absurd (hsig.symm.trans hsome) nofun
  all_goals rw [h]

/-- R176: so no step does. -/
theorem step_int_of_sig_none {s t : State} (h : step s = .next t) (hsig : s.sig = none) : t.int = s.int := by
  obtain ⟨agenda, draws, ⟨-, htrans⟩ | ⟨-, rfl⟩⟩ := step_next_cases h
  · exact (transactionStep_int htrans :)
  · exact (State.perform_int_of_sig_none s.nextTurn.1 (s := { s with agenda := agenda, draws := draws }) hsig :)

/-- R191: with nothing outside moving, the glue's turn or the driver's comes first, and two steps drive the signalled
level. -/
theorem run_two_drives_sig {s : State} {v : Bool} (hagenda : s.agenda = []) (hsig : s.sig = some v) :
    ∃ t, Host.Core.run core 2 s = .next t ∧ t.int = v := by
  cases hglue : s.glue with
  | none =>
    have hdrive := step_drv_of_sig (State.nextTurn_of_sig hglue hagenda hsig) hsig
    obtain ⟨t, hstep⟩ := step_total { s with draws := s.draws + 1, sig := none, int := v }
    exact ⟨t, (run_succ 1 _ _ hdrive).trans (run_succ 0 _ _ hstep), step_int_of_sig_none hstep rfl⟩
  | some m =>
    obtain ⟨u, happly, hdone, huagenda, -, husig, -⟩ := deploymentDefaultComesFirst s m.1 m.2 hglue
    have hnext := State.nextTurn_of_sig hdone (huagenda.trans hagenda) (husig.trans hsig)
    have hdrive := step_drv_of_sig hnext (husig.trans hsig)
    exact ⟨_, (run_succ 1 _ _ happly).trans (run_succ 0 _ _ hdrive), rfl⟩

/-- Settles O45: by induction on the turns before the driver's, and for the empty agenda by whether the glue comes first. -/
theorem signalledLevelReachesPin : Obligations.SignalledLevelReachesPin :=
  ⟨fun _ _ before _ hglue hsig hother hagenda => run_to_driver_turn before hglue hsig hother hagenda,
    fun _ _ hagenda hsig => run_two_drives_sig hagenda hsig⟩

end Sys2Proof.Machine
end

section
/-! PROOF. Which write phases carry a command (R45, R60, R73, R76): those that begin with a command's encoding. -/

namespace Sys2Proof

/-- R64, R76: a command's encoding decodes to it, whatever bytes trail. -/
theorem decode_encode_append (c : Instr) (trailing : List Byte) : decode (encode c ++ trailing) = .ok c := by
  have hasm : assemble c.opcode (c.payload ++ trailing) = .ok c := by cases c <;> rfl
  have hlen : ¬ (c.payload ++ trailing).length < arity c.opcode := by
    have := encode_length_eq_arity c
    simp only [encode, List.length_cons] at this
    rw [List.length_append]
    omega
  simp only [decode, encode, List.cons_append, decodeRun, if_neg hlen, hasm]

/-- R70, R76: the bytes that decode to a command are its encoding and trailing bytes. -/
theorem decode_ok_iff {bytes : List Byte} {c : Instr} :
    decode bytes = .ok c ↔ ∃ trailing, bytes = encode c ++ trailing := by
  refine ⟨fun h => ?_, fun ⟨trailing, h⟩ => h ▸ decode_encode_append c trailing⟩
  unfold decode at h
  obtain ⟨-, hrun⟩ | ⟨op, payload, hbytes, ⟨e, hrun⟩ | ⟨d, -, hasm, hrun⟩⟩ := decodeRun_cases bytes
  · simp [hrun] at h
  · simp [hrun] at h
  · obtain rfl : d = c := by simpa [hrun] using h
    obtain ⟨rfl, trailing, rfl⟩ := assemble_ok hasm
    exact ⟨trailing, hbytes⟩

/-- R45, R70: trailing bytes leave a write phase well-formed. -/
theorem payloadWellFormed_append {bytes : List Byte} (trailing : List Byte) (h : payloadWellFormed bytes = true) :
    payloadWellFormed (bytes ++ trailing) = true := by
  cases bytes with
  | nil => cases h
  | cons op payload =>
    simp only [List.cons_append, payloadWellFormed, Bool.or_eq_true, Bool.and_eq_true, decide_eq_true_eq,
      List.length_append] at h ⊢
    exact h.imp (Or.imp id (And.imp id Nat.le_add_right_of_le)) (And.imp id Nat.le_add_right_of_le)

/-- R60, R72: a well-formed write phase begins with the encoding of the command that its opcode and payload name. -/
theorem exists_encode_of_payloadWellFormed {bytes : List Byte} (h : payloadWellFormed bytes = true) :
    ∃ (c : Instr) (trailing : List Byte), bytes = encode c ++ trailing := by
  cases bytes with
  | nil => cases h
  | cons op payload =>
    simp only [payloadWellFormed, Bool.or_eq_true, Bool.and_eq_true, decide_eq_true_eq, List.contains_iff_mem] at h
    obtain (hop | ⟨hop, hlen⟩) | ⟨hop, hlen⟩ := h
    · simp only [opcodesF0, List.mem_cons, List.not_mem_nil, or_false] at hop
      obtain rfl | rfl | rfl := hop
      · exact ⟨.readIoModes, payload, rfl⟩
      · exact ⟨.readInputs1, payload, rfl⟩
      · exact ⟨.readInputs2, payload, rfl⟩
    · obtain ⟨v, rest, rfl⟩ := List.exists_cons_of_length_pos hlen
      simp only [opcodesF1, List.mem_cons, List.not_mem_nil, or_false] at hop
      obtain rfl | rfl := hop
      · exact ⟨.writeOutputs1 v, rest, rfl⟩
      · exact ⟨.writeOutputs2 v, rest, rfl⟩
    · match payload, hlen with
      | a :: b :: rest, _ =>
        simp only [opcodesF2, List.mem_cons, List.not_mem_nil, or_false] at hop
        obtain rfl | rfl | rfl | rfl | rfl := hop
        · exact ⟨.writeAllOutputs a b, rest, rfl⟩
        · exact ⟨.setIoModes a b, rest, rfl⟩
        · exact ⟨.setPullDowns a b, rest, rfl⟩
        · exact ⟨.setPullUps a b, rest, rfl⟩
        · exact ⟨.setPullNone a b, rest, rfl⟩

/-- R45, R60: the well-formed write phases are the encodings with trailing bytes. -/
theorem payloadWellFormed_iff {bytes : List Byte} :
    payloadWellFormed bytes = true ↔ ∃ (c : Instr) (trailing : List Byte), bytes = encode c ++ trailing := by
  refine ⟨exists_encode_of_payloadWellFormed, ?_⟩
  rintro ⟨c, trailing, rfl⟩
  obtain ⟨-, -, hwf, -⟩ := wireForm c
  exact payloadWellFormed_append trailing hwf

/-- R72, R73: no command has an opcode of the five reserved ranges. -/
theorem opcode_not_in_reserved_ranges (c : Instr) :
    ¬ (c.opcode = 0x00 ∨ (0x04 ≤ c.opcode ∧ c.opcode ≤ 0x10) ∨ (0x13 ≤ c.opcode ∧ c.opcode ≤ 0x20) ∨
      (0x23 ≤ c.opcode ∧ c.opcode ≤ 0x2F) ∨ 0x33 ≤ c.opcode) := by
  cases c <;> simp only [Instr.opcode] <;> decide

/-- Settles O5: both sides say that the write phase begins with a command's encoding, whose first byte is its opcode. -/
theorem commandExactlyWhenWellFormed : Obligations.CommandExactlyWhenWellFormed := by
  refine ⟨fun bytes => ?_, fun op payload hreserved c h => ?_⟩
  · simp only [decode_ok_iff, payloadWellFormed_iff]
  · obtain ⟨trailing, hbytes⟩ := decode_ok_iff.1 h
    obtain rfl : op = c.opcode := List.head_eq_of_cons_eq hbytes
    exact opcode_not_in_reserved_ranges c hreserved

end Sys2Proof
end

section
/-! PROOF. The write-class commands are idempotent (R49), because the pin-group primitives are (R90, R92, R94). -/

namespace Sys2Proof.Machine

/-- R90: setting the modes again changes nothing. -/
theorem PinGroup.setPinModes_idem (m : Byte) (p : PinGroup) : (p.setPinModes m).setPinModes m = p.setPinModes m := by
  simp only [PinGroup.setPinModes, PinGroup.mk.injEq, true_and, and_true]
  ext i hi
  simp only [Vector.getElem_ofFn, Fin.getElem_fin]
  split <;> rfl

/-- R92: writing the pins again changes nothing. -/
theorem PinGroup.writePins_idem (v : Byte) (p : PinGroup) : (p.writePins v).writePins v = p.writePins v := by
  have hout : ((p.writePins v).writePins v).out = (p.writePins v).out := byte_eq_of_pins fun i => by
    simp only [PinGroup.writePins_out_get, PinGroup.writePins_mode]
    split <;> rfl
  exact congrArg (fun out => { p with out := out }) hout

/-- R94: setting the pulls again changes nothing. -/
theorem PinGroup.setPinPulls_idem (mask : Byte) (q : Pull) (p : PinGroup) :
    (p.setPinPulls mask q).setPinPulls mask q = p.setPinPulls mask q := by
  simp only [PinGroup.setPinPulls, PinGroup.mk.injEq, true_and, and_true]
  ext i hi
  simp only [Vector.getElem_ofFn, Fin.getElem_fin]
  split <;> rfl

/-- R49, R118: a write-class meaning on a Write that rewrites the pin groups idempotently is idempotent. -/
theorem State.writeClass_idem {run : State → State} {f0 f1 : PinGroup → PinGroup} (c : Instr)
    (h0 : ∀ p, f0 (f0 p) = f0 p) (h1 : ∀ p, f1 (f1 p) = f1 p)
    (hrun : ∀ s, run s = { s with grp0 := f0 s.grp0, grp1 := f1 s.grp1 }) {s : State} (hs : s.handler = .write) :
    (s.writeClass c run).writeClass c run = s.writeClass c run := by
  have effect (u : State) (hu : u.handler = .write) :
      u.writeClass c run = { u with grp0 := f0 u.grp0, grp1 := f1 u.grp1, result := .ok } := by
    rw [State.writeClass_write c run u hu, hrun]
    rfl
  rw [effect s hs, effect { s with grp0 := f0 s.grp0, grp1 := f1 s.grp1, result := .ok } hs]
  simp only [h0, h1]

/-- Settles O23: each of the seven commands rewrites each pin group by an idempotent primitive, or leaves it. -/
theorem writeClassIsIdempotent : Obligations.WriteClassIsIdempotent := by
  intro c s t hclass hs h
  cases c with
  | readIoModes | readInputs1 | readInputs2 => cases hclass
  | writeAllOutputs a b =>
    cases h
    exact congrArg Host.Outcome.next
      (State.writeClass_idem _ (PinGroup.writePins_idem a) (PinGroup.writePins_idem b) (fun _ => rfl) hs)
  | setIoModes a b =>
    cases h
    exact congrArg Host.Outcome.next
      (State.writeClass_idem _ (PinGroup.setPinModes_idem a) (PinGroup.setPinModes_idem b) (fun _ => rfl) hs)
  | writeOutputs1 v =>
    cases h
    exact congrArg Host.Outcome.next
      (State.writeClass_idem (f1 := id) _ (PinGroup.writePins_idem v) (fun _ => rfl) (fun _ => rfl) hs)
  | writeOutputs2 v =>
    cases h
    exact congrArg Host.Outcome.next
      (State.writeClass_idem (f0 := id) _ (fun _ => rfl) (PinGroup.writePins_idem v) (fun _ => rfl) hs)
  | setPullDowns a b | setPullUps a b | setPullNone a b =>
    cases h
    exact congrArg Host.Outcome.next
      (State.writeClass_idem _ (PinGroup.setPinPulls_idem a _) (PinGroup.setPinPulls_idem b _) (fun _ => rfl) hs)

end Sys2Proof.Machine
end

section
/-! PROOF. The decoder inverts the encoder (R72, R76), its two errors (R65 to R67), and the bytes it looks at (R70). -/

namespace Sys2Proof

/-! Decoding undoes encoding. -/

/-- R76: a command's encoding decodes to it. -/
theorem decode_encode (c : Instr) : decode (encode c) = .ok c := by
  rw [← List.append_nil (encode c)]
  exact decode_encode_append c []

/-- R76: so no two commands have the same encoding. -/
theorem encode_injective : Function.Injective encode := by
  intro c d h
  have hok : (.ok c : Except DecodeError Instr) = .ok d := by rw [← decode_encode c, h, decode_encode d]
  exact Except.ok.inj hok

/-- Settles O1: what decodes to a command is its encoding and trailing bytes, which are none when the lengths agree. -/
theorem decodeUndoesEncode : Obligations.DecodeUndoesEncode := by
  refine ⟨decode_encode_append, fun c bytes h => ?_, fun _ _ => @encode_injective _ _, fun _ => rfl⟩
  obtain ⟨trailing, rfl⟩ := decode_ok_iff.1 h
  refine ⟨⟨trailing, rfl⟩, ?_⟩
  rw [List.self_eq_append_right, List.length_append, Nat.add_eq_left, List.length_eq_zero_iff]

/-- Settles O2: each wire form is the encoding of its command. -/
theorem commandWordsDecode : Obligations.CommandWordsDecode :=
  fun a b => ⟨decode_encode .readIoModes, decode_encode (.writeAllOutputs a b), decode_encode (.setIoModes a b),
    decode_encode (.writeOutputs1 a), decode_encode (.writeOutputs2 a), decode_encode .readInputs1,
    decode_encode .readInputs2, decode_encode (.setPullDowns a b), decode_encode (.setPullUps a b),
    decode_encode (.setPullNone a b)⟩

/-! The arity of an opcode. -/

theorem arity_of_mem_opcodesF0 : ∀ op ∈ opcodesF0, arity op = 0 := by decide

theorem arity_of_mem_opcodesF1 : ∀ op ∈ opcodesF1, arity op = 1 := by decide

theorem arity_of_mem_opcodesF2 : ∀ op ∈ opcodesF2, arity op = 2 := by decide

/-- R60, R73: an opcode is reserved or stands in the list of its format. -/
theorem reservedOpcode_eq_false_iff {op : Byte} :
    reservedOpcode op = false ↔ (op ∈ opcodesF0 ∨ op ∈ opcodesF1) ∨ op ∈ opcodesF2 := by
  simp only [reservedOpcode, Bool.not_eq_false', Bool.or_eq_true, List.contains_iff_mem]

/-- R68: the arity of a reserved opcode is the open parameter. -/
theorem arity_of_reserved {op : Byte} (h : reservedOpcode op = true) : arity op = (Config.unknownArity op).val := by
  have hnone : knownArity op = none := by
    unfold knownArity
    split
    case h_11 => rfl
    all_goals exact absurd h (by decide)
  simp only [arity, hnone]

/-! The two errors. -/

/-- R66: no command is assembled for a reserved opcode. -/
theorem assemble_of_reserved {op : Byte} (h : reservedOpcode op = true) (payload : List Byte) :
    assemble op payload = .error .badInput := by
  unfold assemble
  split
  case h_11 => rfl
  all_goals exact absurd h (by decide)

/-- R45, R60: with the payload of its arity behind it, an opcode that is not reserved makes a write phase well-formed. -/
theorem payloadWellFormed_of_arity_le {op : Byte} {payload : List Byte} (hop : reservedOpcode op = false)
    (hlen : arity op ≤ payload.length) : payloadWellFormed (op :: payload) = true := by
  simp only [payloadWellFormed, Bool.or_eq_true, Bool.and_eq_true, decide_eq_true_eq, List.contains_iff_mem]
  obtain (h0 | h1) | h2 := reservedOpcode_eq_false_iff.1 hop
  · exact .inl (.inl h0)
  · exact .inl (.inr ⟨h1, arity_of_mem_opcodesF1 op h1 ▸ hlen⟩)
  · exact .inr ⟨h2, arity_of_mem_opcodesF2 op h2 ▸ hlen⟩

/-- R64: the length check comes first, and then the opcode and its payload name the command. -/
theorem decode_cons (op : Byte) (payload : List Byte) :
    decode (op :: payload) = if payload.length < arity op then .error .incomplete else assemble op payload := by
  simp only [decode, decodeRun]
  split
  · rfl
  · cases assemble op payload <;> rfl

/-- R65, R66, R67: a write phase that is not empty is too short, has a reserved opcode, or carries a command. -/
theorem decode_cons_cases (op : Byte) (payload : List Byte) :
    (payload.length < arity op ∧ decode (op :: payload) = .error .incomplete) ∨
    (arity op ≤ payload.length ∧ reservedOpcode op = true ∧ decode (op :: payload) = .error .badInput) ∨
    (arity op ≤ payload.length ∧ reservedOpcode op = false ∧ ∃ c, decode (op :: payload) = .ok c) := by
  rcases Nat.lt_or_ge payload.length (arity op) with hshort | hlen
  · exact .inl ⟨hshort, by rw [decode_cons, if_pos hshort]⟩
  · cases hop : reservedOpcode op with
    | true =>
      exact .inr (.inl ⟨hlen, rfl, by rw [decode_cons, if_neg (Nat.not_lt.2 hlen), assemble_of_reserved hop]⟩)
    | false =>
      obtain ⟨c, hc⟩ := exists_encode_of_payloadWellFormed (payloadWellFormed_of_arity_le hop hlen)
      exact .inr (.inr ⟨hlen, rfl, c, decode_ok_iff.2 hc⟩)

theorem decode_eq_incomplete_iff {op : Byte} {payload : List Byte} :
    decode (op :: payload) = .error .incomplete ↔ payload.length < arity op := by
  obtain ⟨hshort, h⟩ | ⟨hlen, -, h⟩ | ⟨hlen, -, c, h⟩ := decode_cons_cases op payload
  · simp [h, hshort]
  · simp [h, hlen]
  · simp [h, hlen]

theorem decode_eq_badInput_iff {op : Byte} {payload : List Byte} :
    decode (op :: payload) = .error .badInput ↔ reservedOpcode op = true ∧ arity op ≤ payload.length := by
  obtain ⟨hshort, h⟩ | ⟨hlen, hop, h⟩ | ⟨-, hop, c, h⟩ := decode_cons_cases op payload
  · simp [h, hshort]
  · simp [h, hop, hlen]
  · simp [h, hop]

/-- Settles O3: by the decoder's three cases, and the arities of the listed and of the reserved opcodes. -/
theorem incompleteExactlyWhenShort : Obligations.IncompleteExactlyWhenShort :=
  ⟨fun _ _ => decode_eq_incomplete_iff, arity_of_mem_opcodesF0, arity_of_mem_opcodesF1, arity_of_mem_opcodesF2,
    fun _ => arity_of_reserved⟩

/-- R66: two bytes behind it are payload enough for any reserved opcode. -/
theorem decode_of_reserved {op : Byte} (h : reservedOpcode op = true) (a b : Byte) (payload : List Byte) :
    decode (op :: a :: b :: payload) = .error .badInput :=
  decode_eq_badInput_iff.2 ⟨h, (arity_le_two op).trans (Nat.le_add_left 2 payload.length)⟩

/-- Settles O4: by the decoder's three cases; the examples have a reserved opcode and two bytes behind it. -/
theorem badInputExactlyWhenUnknown : Obligations.BadInputExactlyWhenUnknown :=
  ⟨fun _ _ => decode_eq_badInput_iff, fun _ a b payload h => decode_of_reserved h a b payload,
    decode_of_reserved (by decide) 0 0 [], decode_of_reserved (by decide) 0 0 [], decode_of_reserved (by decide) 0 0 []⟩

/-- Settles O6: none of the decoder's cases is `BadOffset`. -/
theorem badOffsetNeverRaised : Obligations.BadOffsetNeverRaised := by
  refine ⟨fun bytes => ?_, rfl⟩
  cases bytes with
  | nil => exact nofun
  | cons op payload =>
    obtain ⟨-, h⟩ | ⟨-, -, h⟩ | ⟨-, -, c, h⟩ := decode_cons_cases op payload <;>
      rw [h] <;> exact nofun

/-! The bytes the decoder looks at. -/

/-- R60, R70: a write phase that carries a command has as its first `1 + ARITY(op)` bytes the command's encoding. -/
theorem take_eq_encode_of_decode_ok {op : Byte} {payload : List Byte} {c : Instr}
    (h : decode (op :: payload) = .ok c) :
    1 + arity op = (encode c).length ∧ (op :: payload).take (1 + arity op) = encode c := by
  obtain ⟨trailing, hbytes⟩ := decode_ok_iff.1 h
  obtain rfl : op = c.opcode := List.head_eq_of_cons_eq hbytes
  rw [← encode_length_eq_arity, hbytes]
  exact ⟨rfl, List.take_left⟩

/-- R70: the bytes behind the opcode's payload do not change the result. -/
theorem decode_take_arity (op : Byte) (payload : List Byte) :
    decode ((op :: payload).take (1 + arity op)) = decode (op :: payload) := by
  obtain ⟨hshort, -⟩ | ⟨hlen, hop, h⟩ | ⟨-, -, c, h⟩ := decode_cons_cases op payload
  · have hall : (op :: payload).length ≤ 1 + arity op := by
      rw [List.length_cons]
      omega
    rw [List.take_of_length_le hall]
  · rw [h, Nat.add_comm, List.take_succ_cons]
    exact decode_eq_badInput_iff.2 ⟨hop, by rw [List.length_take, Nat.min_eq_left hlen]⟩
  · rw [(take_eq_encode_of_decode_ok h).2, h, decode_encode]

/-- R70: nor do bytes behind a command. -/
theorem decode_append_of_ok {bytes : List Byte} {c : Instr} (trailing : List Byte) (h : decode bytes = .ok c) :
    decode (bytes ++ trailing) = .ok c := by
  obtain ⟨between, rfl⟩ := decode_ok_iff.1 h
  rw [List.append_assoc]
  exact decode_encode_append c _

/-- Settles O7: the cursor stops behind the command's encoding, whose length its opcode gives. -/
theorem decoderIgnoresTrailingBytes : Obligations.DecoderIgnoresTrailingBytes := by
  refine ⟨fun op payload => (decode_take_arity op payload).symm, fun _ _ trailing => decode_append_of_ok trailing,
    fun c op payload h => ?_, decode_encode_append .readIoModes [0, 0]⟩
  rw [decodeCursor_of_decode_ok h, (take_eq_encode_of_decode_ok h).1]

end Sys2Proof
end

section
/-! PROOF. The read-class commands on a WriteRead, from the pending transaction to the host's reply (R78, R122). -/

namespace Sys2Proof.Machine

/-! A transaction that carries a command. -/

/-- R116, R183: a pending Write or WriteRead goes to the decoder with the handler of its kind. -/
theorem State.service_of_pending {s : State} {T : Transaction} {hd : Handler} {bytes : List Byte} (hsig : s.sig = none)
    (hpending : s.pending = some T)
    (hkind : (hd = .write ∧ T = .write bytes) ∨ (hd = .writeRead ∧ ∃ k, T = .writeRead bytes k)) :
    s.service = s.decodePhase T hd bytes := by
  unfold State.service
  rw [if_pos (s.bslEnabled_iff.2 hsig), hpending, State.startTransaction_eq]
  obtain ⟨rfl, rfl⟩ | ⟨rfl, k, rfl⟩ := hkind <;> rfl

/-- R117, R119, R183: the step that services a command runs it in the state with its payload loaded, and ends the
transaction. -/
theorem step_of_decode_ok {s u v : State} {T : Transaction} {hd : Handler} {bytes : List Byte} {c : Instr}
    (hnext : s.nextTurn = (.transaction, u)) (hsig : u.sig = none) (hpending : u.pending = some T)
    (hkind : (hd = .write ∧ T = .write bytes) ∨ (hd = .writeRead ∧ ∃ k, T = .writeRead bytes k))
    (hdec : decode bytes = .ok c) (hexec : exec c (u.loadCommand hd bytes) = .next v) :
    step s = .next (State.endTransaction T u v) := by
  have hserve : u.service = .command T c (u.loadCommand hd bytes) := by
    rw [State.service_of_pending hsig hpending hkind]
    simp only [State.decodePhase, State.loadCommand_rx, decode_captureBytes, hdec]
  simp only [step_eq, hnext, if_true, transactionStep, hserve, hexec]

/-! The end of a transaction. -/

/-- R179: the end of a transaction latches no edge of its own making in a group that the handler left alone. -/
theorem State.endTransaction_grp (T : Transaction) {before s : State} (g : Group) (h : s.grp g = before.grp g) :
    (State.endTransaction T before s).grp g = before.grp g := by
  have unmoved (free : Byte) {p q : PinGroup} (hq : q = p) (ext : Vector Ext 8) :
      q.latch (movedWith free p q ext && Config.selfInducedEdges) = p := by
    rw [hq, movedWith_self, Bool.false_and, PinGroup.latch_false]
  cases g <;> exact unmoved _ h _

/-- R122: of the bytes the host gets, those that are valid are the first of the valid reply. -/
theorem State.sendReply_take_valid (k : Nat) (s : State) :
    (s.sendReply k).reply.take s.validReply.length = s.validReply.take k := by
  rcases Nat.le_total k s.validReply.length with hk | hk
  · rw [State.sendReply_of_le hk, List.take_take, Nat.min_eq_right hk]
  · rw [State.sendReply_reply, List.take_of_length_le hk]
    exact List.take_left

/-- R26, R122, R183: a step that services an accepted read-class command leaves both groups and the interrupt pin, and gives
the host the command's reply. -/
theorem step_of_read {s u v : State} {bytes : List Byte} {k : Nat} {c : Instr} (hnext : s.nextTurn = (.transaction, u))
    (hsig : u.sig = none) (hpending : u.pending = some (.writeRead bytes k)) (hdec : decode bytes = .ok c)
    (hread : c.replyLength.isSome) (hexec : exec c (u.loadCommand .writeRead bytes) = .next v) (hok : v.result = .ok) :
    ∃ t, step s = .next t ∧ t.result = .ok ∧ t.pending = none ∧ t.sig = v.sig ∧ t.int = u.int ∧ t.grp0 = u.grp0 ∧
      t.grp1 = u.grp1 ∧ t.reply.length = k ∧ t.reply.take v.validReply.length = v.validReply.take k := by
  obtain ⟨⟨hint, -⟩, hgroups, -⟩ := commandFrame c _ v hexec
  obtain ⟨h0, h1⟩ := hgroups hread
  exact ⟨_, step_of_decode_ok hnext hsig hpending (.inr ⟨rfl, k, rfl⟩) hdec hexec, hok, rfl, rfl, hint,
    State.endTransaction_grp _ .g0 h0, State.endTransaction_grp _ .g1 h1, v.sendReply_length k,
    v.sendReply_take_valid k⟩

/-! The three commands. -/

theorem exec_readIoModes_of_writeRead {s : State} (h : s.handler = .writeRead) :
    exec .readIoModes s = .next (s.putReply2 s.grp0.mode s.grp1.mode).accept :=
  congrArg Host.Outcome.next (State.readClass_writeRead _ _ s h)

theorem exec_readInputs1_of_writeRead {s : State} (h : s.handler = .writeRead) :
    exec .readInputs1 s = .next (((s.readPins .g0).2.putReply1 (s.readPins .g0).1).signal false).accept :=
  congrArg Host.Outcome.next (State.readClass_writeRead _ _ s h)

theorem exec_readInputs2_of_writeRead {s : State} (h : s.handler = .writeRead) :
    exec .readInputs2 s = .next ((s.readPins .g1).2.putReply1 (s.readPins .g1).1).accept :=
  congrArg Host.Outcome.next (State.readClass_writeRead _ _ s h)

/-- Settles O25: the valid reply is the two mode bytes, and the command signals nothing. -/
theorem hostReadsModes : Obligations.HostReadsModes := by
  intro s u trailing k hnext hsig hpending
  obtain ⟨t, hstep, hok, hdone, hsig', hint, h0, h1, hlen, hreply⟩ :=
    step_of_read hnext hsig hpending (decode_encode_append .readIoModes trailing) rfl
      (exec_readIoModes_of_writeRead rfl) rfl
  exact ⟨t, hstep, hok, hdone, hlen, hreply, h0, h1, hsig', hint⟩

/-- Settles O26: the valid reply is the level of the group, and only the read of group 0 signals. -/
theorem hostReadsInputs : Obligations.HostReadsInputs := by
  refine ⟨fun s u trailing k hnext hsig hpending => ?_, fun s u trailing k hnext hsig hpending => ?_⟩
  · obtain ⟨t, hstep, hok, hdone, hsig', hint, h0, h1, hlen, hreply⟩ :=
      step_of_read hnext hsig hpending (decode_encode_append .readInputs1 trailing) rfl
        (exec_readInputs1_of_writeRead rfl) rfl
    exact ⟨t, (u.readPins .g0).1, hstep, hok, hdone, hsig', hint, h0, h1, hlen, hreply, groupReads_level _ _ _⟩
  · obtain ⟨t, hstep, hok, hdone, hsig', hint, h0, h1, hlen, hreply⟩ :=
      step_of_read hnext hsig hpending (decode_encode_append .readInputs2 trailing) rfl
        (exec_readInputs2_of_writeRead rfl) rfl
    exact ⟨t, (u.readPins .g1).1, hstep, hok, hdone, ⟨h0, h1, hsig', hint⟩, hlen, hreply, groupReads_level _ _ _⟩

end Sys2Proof.Machine
end

section
/-! PROOF. The pin-group operations as loops over the pins (R90, R92 to R94, R97), and writes to inputs (R92). -/

namespace Sys2Proof.Machine

/-! A loop over the pins whose passes touch one pin each. -/

/-- R97: when pass `i` rewrites the view of pin `i` alone, a loop that meets no pin twice rewrites the pins it meets. -/
theorem foldl_pinwise {σ β : Type} {view : σ → Fin 8 → β} {pass : σ → Fin 8 → σ} {f : Fin 8 → β → β}
    (hpass : ∀ s i j, view (pass s i) j = if j = i then f j (view s j) else view s j)
    {order : List (Fin 8)} (horder : order.Nodup) (s : σ) (j : Fin 8) :
    view (order.foldl pass s) j = if j ∈ order then f j (view s j) else view s j := by
  induction order generalizing s with
  | nil => rfl
  | cons i rest ih =>
    obtain ⟨hi, hrest⟩ := List.nodup_cons.1 horder
    rw [List.foldl_cons, ih hrest, hpass]
    by_cases hj : j = i
    · subst hj
      simp [hi]
    · simp [hj]

/-- R97: so a loop over all eight pins, in any order, rewrites every pin once. -/
theorem foldl_all_pins {σ β : Type} {view : σ → Fin 8 → β} {pass : σ → Fin 8 → σ} {f : Fin 8 → β → β}
    (hpass : ∀ s i j, view (pass s i) j = if j = i then f j (view s j) else view s j)
    {order : List (Fin 8)} (horder : order.Perm (List.finRange 8)) (s : σ) (j : Fin 8) :
    view (order.foldl pass s) j = f j (view s j) := by
  rw [foldl_pinwise hpass (horder.nodup_iff.2 (List.nodup_finRange 8)),
    if_pos (horder.mem_iff.2 (List.mem_finRange j))]

/-! One bit of a byte. -/

theorem pinMask_getLsbD : ∀ i j : Fin 8, (pinMask i).getLsbD j = decide (j = i) := by decide

/-- R92: or with the mask of pin `i` sets its bit alone. -/
theorem or_pinMask_getLsbD (b : Byte) (i j : Fin 8) :
    (b ||| pinMask i).getLsbD j = if j = i then true else b.getLsbD j := by
  rw [BitVec.getLsbD_or, pinMask_getLsbD]
  by_cases hj : j = i <;> simp [hj]

/-- R92: and with the complement of the mask of pin `i` clears its bit alone. -/
theorem and_not_pinMask_getLsbD (b : Byte) (i j : Fin 8) :
    (b &&& ~~~pinMask i).getLsbD j = if j = i then false else b.getLsbD j := by
  rw [BitVec.getLsbD_and, BitVec.getLsbD_not, pinMask_getLsbD]
  by_cases hj : j = i <;> simp [hj]

theorem pull_set_get (pull : Vector Pull 8) (q : Pull) (i j : Fin 8) :
    (pull.set i q)[j] = if j = i then q else pull[j] := by
  simp only [Fin.getElem_fin, Vector.getElem_set, Fin.ext_iff, eq_comm]

/-! The cells of one pin, and what each operation does to them. -/

/-- R10: what a pin group holds for one pin, and the latch that its pins share. -/
structure PinCells where
  mode : Bool
  out : Bool
  pull : Pull
  ep : Bool

def PinGroup.cells (p : PinGroup) (i : Fin 8) : PinCells := ⟨p.mode.getLsbD i, p.out.getLsbD i, p.pull[i], p.ep⟩

/-- R90, for one pin. -/
def PinCells.setMode (m : Bool) (c : PinCells) : PinCells := { c with mode := m, pull := if m then c.pull else .up }

/-- R92, for one pin. -/
def PinCells.write (v : Bool) (c : PinCells) : PinCells := { c with out := if c.mode then v else c.out }

/-- R94, for one pin. -/
def PinCells.setPull (selected : Bool) (q : Pull) (c : PinCells) : PinCells :=
  { c with pull := if selected then q else c.pull }

/-- R10: a group is given by the cells of its pins. -/
theorem PinGroup.eq_of_cells {p q : PinGroup} (h : ∀ i, p.cells i = q.cells i) : p = q := by
  have hmode : p.mode = q.mode := byte_eq_of_pins fun i => congrArg PinCells.mode (h i)
  have hout : p.out = q.out := byte_eq_of_pins fun i => congrArg PinCells.out (h i)
  have hpull : p.pull = q.pull := Vector.ext fun i hi => congrArg PinCells.pull (h ⟨i, hi⟩)
  have hep : p.ep = q.ep := congrArg PinCells.ep (h 0)
  cases p; cases q
  congr

theorem PinGroup.cells_setPinModes (m : Byte) (p : PinGroup) (i : Fin 8) :
    (p.setPinModes m).cells i = (p.cells i).setMode (m.getLsbD i) := by
  simp only [cells, setPinModes_pull_get]
  rfl

theorem PinGroup.cells_writePins (v : Byte) (p : PinGroup) (i : Fin 8) :
    (p.writePins v).cells i = (p.cells i).write (v.getLsbD i) := by
  simp only [cells, writePins_out_get]
  rfl

theorem PinGroup.cells_setPinPulls (mask : Byte) (q : Pull) (p : PinGroup) (i : Fin 8) :
    (p.setPinPulls mask q).cells i = (p.cells i).setPull (mask.getLsbD i) q := by
  simp only [cells, setPinPulls_pull_get]
  rfl

/-- R90: pass `i` of the loop sets the mode of pin `i` alone. -/
theorem PinGroup.cells_setPinModeAt (m : Byte) (p : PinGroup) (i j : Fin 8) :
    (p.setPinModeAt m i).cells j = if j = i then (p.cells j).setMode (m.getLsbD j) else p.cells j := by
  unfold setPinModeAt
  by_cases hj : j = i
  · subst hj
    cases m.getLsbD j <;>
      simp only [cells, PinCells.setMode, or_pinMask_getLsbD, and_not_pinMask_getLsbD, pull_set_get, ↓reduceIte,
        Bool.false_eq_true]
  · cases m.getLsbD i <;>
      simp only [cells, or_pinMask_getLsbD, and_not_pinMask_getLsbD, pull_set_get, if_neg hj, ↓reduceIte,
        Bool.false_eq_true]

/-- R92: pass `i` of the loop writes pin `i` alone. -/
theorem PinGroup.cells_writePinAt (v : Byte) (p : PinGroup) (i j : Fin 8) :
    (p.writePinAt v i).cells j = if j = i then (p.cells j).write (v.getLsbD j) else p.cells j := by
  unfold writePinAt
  by_cases hj : j = i
  · subst hj
    cases hmode : p.mode.getLsbD j <;> cases v.getLsbD j <;>
      simp only [cells, PinCells.write, hmode, or_pinMask_getLsbD, and_not_pinMask_getLsbD, ↓reduceIte,
        Bool.false_eq_true]
  · cases p.mode.getLsbD i <;> cases v.getLsbD i <;>
      simp only [cells, or_pinMask_getLsbD, and_not_pinMask_getLsbD, if_neg hj, ↓reduceIte, Bool.false_eq_true]

/-- R94: pass `i` of the loop sets the pull of pin `i` alone. -/
theorem PinGroup.cells_setPinPullAt (mask : Byte) (q : Pull) (p : PinGroup) (i j : Fin 8) :
    (p.setPinPullAt mask q i).cells j = if j = i then (p.cells j).setPull (mask.getLsbD j) q else p.cells j := by
  unfold setPinPullAt
  by_cases hj : j = i
  · subst hj
    cases mask.getLsbD j <;>
      simp only [cells, PinCells.setPull, pull_set_get, ↓reduceIte, Bool.false_eq_true]
  · cases mask.getLsbD i <;> simp only [cells, pull_set_get, if_neg hj, ↓reduceIte, Bool.false_eq_true]

/-- R17: the level of a pin is its driven level or the sampled one, by its direction. -/
theorem level_getLsbD_of_direction (p : PinGroup) (ext : Vector Ext 8) (free : Byte) (i : Fin 8) :
    (level p ext free).getLsbD i =
      if p.mode.getLsbD i then p.out.getLsbD i else (sampled p ext free).getLsbD i :=
  select_getLsbD _ _ _ i

/-- R93: pass `i` of the loop puts the level of pin `i` into bit `i` of the result alone. -/
theorem PinGroup.readPinAt_getLsbD (p : PinGroup) (ext : Vector Ext 8) (free r : Byte) (i j : Fin 8) :
    (p.readPinAt ext free r i).getLsbD j = if j = i then (level p ext free).getLsbD j else r.getLsbD j := by
  unfold readPinAt
  rw [← level_getLsbD_of_direction]
  by_cases hj : j = i
  · subst hj
    cases (level p ext free).getLsbD j <;>
      simp only [or_pinMask_getLsbD, and_not_pinMask_getLsbD, ↓reduceIte, Bool.false_eq_true]
  · cases (level p ext free).getLsbD i <;>
      simp only [or_pinMask_getLsbD, and_not_pinMask_getLsbD, if_neg hj, ↓reduceIte, Bool.false_eq_true]

/-- R97: a loop whose pass `i` does to the cells of pin `i` what `op` does to every pin's is `op`, in any order. -/
theorem PinGroup.foldl_eq_of_cells {pass : PinGroup → Fin 8 → PinGroup} {op : PinGroup → PinGroup}
    {f : Fin 8 → PinCells → PinCells}
    (hpass : ∀ p i j, (pass p i).cells j = if j = i then f j (p.cells j) else p.cells j)
    (hop : ∀ p i, (op p).cells i = f i (p.cells i)) {order : List (Fin 8)}
    (horder : order.Perm (List.finRange 8)) (p : PinGroup) : order.foldl pass p = op p :=
  eq_of_cells fun i => (foldl_all_pins hpass horder p i).trans (hop p i).symm

/-- Settles O10: each pass touches its own pin alone, so in any order every pin is treated once. -/
theorem pinOrderDoesNotMatter : Obligations.PinOrderDoesNotMatter := by
  intro order p b r free q ext horder
  refine ⟨?modes, ?write, ?pulls, ?read⟩
  case modes => exact PinGroup.foldl_eq_of_cells (PinGroup.cells_setPinModeAt b) (PinGroup.cells_setPinModes b) horder p
  case write => exact PinGroup.foldl_eq_of_cells (PinGroup.cells_writePinAt b) (PinGroup.cells_writePins b) horder p
  case pulls =>
    exact PinGroup.foldl_eq_of_cells (PinGroup.cells_setPinPullAt b q) (PinGroup.cells_setPinPulls b q) horder p
  case read =>
    exact byte_eq_of_pins fun j =>
      foldl_all_pins (view := fun a i => a.getLsbD i) (f := fun i _ => (level p ext free).getLsbD i)
        (p.readPinAt_getLsbD ext free) horder r j

/-! Writes to inputs. -/

/-- R17: an input pin reads its sampled level. -/
theorem level_getLsbD_of_input {p : PinGroup} {i : Fin 8} (hi : p.mode.getLsbD i = false) (ext : Vector Ext 8)
    (free : Byte) : (level p ext free).getLsbD i = (sampled p ext free).getLsbD i := by
  rw [level_getLsbD_of_direction, hi]
  rfl

/-- R16: writing the pins does not move what they are sampled at. -/
theorem sampled_writePins (v : Byte) (p : PinGroup) (ext : Vector Ext 8) (free : Byte) :
    sampled (p.writePins v) ext free = sampled p ext free := rfl

/-- R92, R99: the write keeps the driven level of an input pin. -/
theorem PinGroup.writePins_out_of_input {p : PinGroup} {i : Fin 8} (hi : p.mode.getLsbD i = false) (v : Byte) :
    (p.writePins v).out.getLsbD i = p.out.getLsbD i := by
  rw [writePins_out_get, hi]
  rfl

/-- Settles O12: an input reads its sampled level, which no driven level enters, and its driven level is not written. -/
theorem writesToInputsAreInvisible : Obligations.WritesToInputsAreInvisible := by
  intro p m v free ext i hi
  have hinput : (p.setPinModes m).mode.getLsbD i = false := hi
  have hwritten : ((p.setPinModes m).writePins v).mode.getLsbD i = false := hi
  refine ⟨?_, PinGroup.writePins_out_of_input hinput v⟩
  rw [level_getLsbD_of_input hwritten, sampled_writePins]

end Sys2Proof.Machine
end

section
/-! PROOF. The edge-win step (R95, R181, R182). -/

namespace Sys2Proof.Machine

/-- R181, R182: on a latched edge with the register empty it clears the latch, and signals where edges trigger. -/
theorem State.edgeWin_of_latched {g : Group} {s : State} (hsig : s.sig = none) (hep : (s.grp g).ep = true) :
    s.edgeWin g =
      if Config.trig g then (s.setGrp g { s.grp g with ep := false }).signal true
      else s.setGrp g { s.grp g with ep := false } := by
  simp only [edgeWin, PinGroup.waitForAnyEdge, if_pos (s.bslEnabled_iff.2 hsig), if_pos hep]

/-- R186, R188: with the register full, or no edge latched, it is parked. -/
theorem State.edgeWin_of_parked {g : Group} {s : State} (h : s.sig ≠ none ∨ (s.grp g).ep = false) :
    s.edgeWin g = s := by
  obtain hparked | ⟨hsig, hep, -⟩ := s.edgeWin_cases g
  · exact hparked
  · simp [hsig, hep] at h

/-- Settles O35: the turn performs the edge-win step, enabled exactly on a latched edge with the register empty. -/
theorem edgeWinSignalsGroupZeroOnly : Obligations.EdgeWinSignalsGroupZeroOnly := by
  intro s u
  refine ⟨fun h hsig hep => ?group0, fun h hsig hep => ?group1, fun g h hparked => ?parked⟩
  all_goals rw [step_of_nextTurn h nofun]
  case group0 => exact congrArg Host.Outcome.next (State.edgeWin_of_latched (g := .g0) hsig hep)
  case group1 => exact congrArg Host.Outcome.next (State.edgeWin_of_latched (g := .g1) hsig hep)
  case parked => exact congrArg Host.Outcome.next (State.edgeWin_of_parked hparked)

end Sys2Proof.Machine
end

section
/-! PROOF. The dispatch of a transaction (R116 to R124, R183): a decoded command, a bare read, a decode failure, and the
errors of the handlers. -/

namespace Sys2Proof.Machine

/-! The class of a command. -/

/-- R118, R120: a command with a reply is of the read class, one without of the write class. -/
theorem exec_class (c : Instr) :
    (c.replyLength.isSome ∧ ∃ run, ∀ s, exec c s = .next (s.readClass c run)) ∨
    (c.replyLength.isNone ∧ ∃ run, ∀ s, exec c s = .next (s.writeClass c run)) := by
  cases c with
  | readIoModes | readInputs1 | readInputs2 => exact .inl ⟨rfl, _, fun _ => rfl⟩
  | writeAllOutputs | setIoModes | writeOutputs1 | writeOutputs2 | setPullDowns | setPullUps | setPullNone =>
    exact .inr ⟨rfl, _, fun _ => rfl⟩

theorem replyLength_isSome_iff (c : Instr) :
    c.replyLength.isSome ↔ c = .readIoModes ∨ c = .readInputs1 ∨ c = .readInputs2 := by
  cases c <;> simp [Instr.replyLength]

/-- R205: a Write refuses every command of the read class. -/
theorem exec_of_read_on_write {c : Instr} {s : State} (hs : s.handler = .write) (hc : c.replyLength.isSome) :
    exec c s = .next (s.raise (.invalidWriteCmd c)) := by
  obtain ⟨-, run, h⟩ | ⟨hnone, -⟩ := exec_class c
  · rw [h, State.readClass_write c run s hs]
  · exact absurd hc (by simpa using hnone)

/-- R206: a WriteRead refuses every command of the write class. -/
theorem exec_of_write_on_writeRead {c : Instr} {s : State} (hs : s.handler = .writeRead) (hc : c.replyLength.isNone) :
    exec c s = .next (s.raise (.invalidWriteReadCmd c)) := by
  obtain ⟨hsome, -⟩ | ⟨-, run, h⟩ := exec_class c
  · exact absurd hsome (by simpa using hc)
  · rw [h, State.writeClass_writeRead c run s hs]

/-- Settles O21: the class check of each command notes the error and nothing else. -/
theorem wrongKindHasNoEffect : Obligations.WrongKindHasNoEffect :=
  fun c _ => ⟨replyLength_isSome_iff c, exec_of_read_on_write, exec_of_write_on_writeRead⟩

/-- R123: a command ends with `ok`, or with an error and no effect but the note of it. -/
theorem exec_raise_or_ok {c : Instr} {s t : State} (h : exec c s = .next t) :
    (∃ e, t = s.raise e) ∨ t.result = .ok := by
  obtain herr | ⟨-, -, rfl⟩ | ⟨-, -, rfl⟩ | ⟨-, -, rfl⟩ | ⟨a, b, -, -, rfl⟩ | ⟨a, b, -, -, rfl⟩ |
    ⟨v, g, -, -, rfl⟩ | ⟨a, b, q, -, -, rfl⟩ := exec_cases c s t h
  · exact .inl herr
  all_goals exact .inr rfl

/-! The end of a transaction. -/

/-- R185: the end of a transaction clears no edge latch. -/
theorem State.endTransaction_keeps_ep (T : Transaction) (before s : State) (g : Group) (h : (s.grp g).ep = true) :
    ((State.endTransaction T before s).grp g).ep = true := by
  cases g <;> exact Bool.or_eq_true_iff.2 (.inl h)

/-- R123, R179: a transaction whose handler left the cells alone leaves them alone. -/
theorem State.SameCells.endTransaction {before s : State} (h : before.SameCells s) (T : Transaction) :
    before.SameCells (State.endTransaction T before s) := by
  obtain ⟨h0, h1, hsig, hint⟩ := h
  exact ⟨endTransaction_grp T .g0 h0, endTransaction_grp T .g1 h1, hsig, hint⟩

/-- R123, R215: loading a write phase and noting an error touch no cell. -/
theorem State.sameCells_raise (s : State) (hd : Handler) (bytes : List Byte) (e : DeviceError) :
    s.SameCells ((s.loadCommand hd bytes).raise e) :=
  ⟨rfl, rfl, rfl, rfl⟩

/-! The step whose turn is the transaction's. -/

theorem step_of_transaction {s u : State} (hnext : s.nextTurn = (.transaction, u)) : step s = transactionStep u := by
  rw [step_eq, hnext, if_pos rfl]

/-- R183: a handler that has run to its end before dispatch is followed by the end of the transaction. -/
theorem step_of_handled {s u v : State} {T : Transaction} (hnext : s.nextTurn = (.transaction, u))
    (hserve : u.service = .handled T v) : step s = .next (State.endTransaction T u v) := by
  simp only [step_of_transaction hnext, transactionStep, hserve]

/-- R186, R188: with the register full or nothing pending the turn passes. -/
theorem transactionStep_of_parked {s : State} (h : s.sig ≠ none ∨ s.pending = none) : transactionStep s = .next s := by
  obtain ⟨hstep, -⟩ | ⟨k, hsig, hpending, -⟩ | ⟨T, hd, bytes, hsig, hpending, -⟩ := transactionStep_cases s
  · exact hstep
  all_goals simp [hsig, hpending] at h

/-- Settles O24: `exec` answers for the decoded command, and the end of the transaction writes only latches, reply and
draw counter and takes the transaction away. -/
theorem stepRunsDecodedCommand : Obligations.StepRunsDecodedCommand := by
  refine ⟨fun s u T hd bytes c hnext hsig hpending hkind hdec => ?runs, fun s u hnext hparked => ?parked⟩
  case runs =>
    obtain ⟨v, hexec⟩ := exec_total c (u.loadCommand hd bytes)
    have hstep := step_of_decode_ok hnext hsig hpending (hkind.imp_left And.symm) hdec hexec
    have hgroups (g : Group) :=
      And.intro (State.endTransaction_sameConfig T u v g) (State.endTransaction_keeps_ep T u v g)
    exact ⟨v, _, hexec, hstep, rfl, hgroups, rfl, rfl, rfl, rfl, rfl, rfl, rfl, rfl, rfl, rfl, rfl, rfl, rfl, rfl⟩
  case parked => rw [step_of_transaction hnext, transactionStep_of_parked hparked]

/-! The bare read. -/

/-- R116, R121: a pending bare read goes to its handler, which decodes nothing. -/
theorem State.service_of_read {s : State} {k : Nat} (hsig : s.sig = none) (hpending : s.pending = some (.read k)) :
    s.service = .handled (.read k) s.busRead := by
  simp only [State.service, if_pos (s.bslEnabled_iff.2 hsig), hpending, State.startTransaction_eq]

/-- Settles O27: the valid reply is the level of group 0 and that of group 1, each under its own draw. -/
theorem busReadReadsBothAndClears : Obligations.BusReadReadsBothAndClears := by
  intro s u k hnext hsig hpending
  have hstep := step_of_handled hnext (State.service_of_read hsig hpending)
  exact ⟨_, (u.readPins .g0).1, ((u.readPins .g0).2.readPins .g1).1, hstep, rfl, rfl, rfl, rfl,
    State.endTransaction_grp _ .g0 rfl, State.endTransaction_grp _ .g1 rfl, u.busRead.sendReply_length k,
    u.busRead.sendReply_take_valid k, groupReads_level _ _ _, groupReads_level _ _ _⟩

/-! The errors. -/

/-- R204, R209: a payload that does not decode ends its handler with the decoder's error, wrapped. -/
theorem State.service_of_decode_error {s : State} {T : Transaction} {hd : Handler} {bytes : List Byte} {e : DecodeError}
    (hsig : s.sig = none) (hpending : s.pending = some T)
    (hkind : (hd = .write ∧ T = .write bytes) ∨ (hd = .writeRead ∧ ∃ k, T = .writeRead bytes k))
    (hdec : decode bytes = .error e) :
    s.service = .handled T ((s.loadCommand hd bytes).raise (.failedToParseCmd e)) := by
  rw [State.service_of_pending hsig hpending hkind]
  simp only [State.decodePhase, State.loadCommand_rx, decode_captureBytes, hdec]

/-- Settles O28: the handler of either kind notes the error, and the end of the transaction finds nothing changed. -/
theorem parseFailureChangesNothing : Obligations.ParseFailureChangesNothing := by
  intro s u T bytes e hnext hsig hpending hkind hdec
  obtain ⟨hd, hkind⟩ : ∃ hd : Handler,
      (hd = .write ∧ T = .write bytes) ∨ (hd = .writeRead ∧ ∃ k, T = .writeRead bytes k) :=
    hkind.elim (fun hT => ⟨.write, .inl ⟨rfl, hT⟩⟩) (fun hT => ⟨.writeRead, .inr ⟨rfl, hT⟩⟩)
  have hstep := step_of_handled hnext (State.service_of_decode_error hsig hpending hkind hdec)
  have hcells := (u.sameCells_raise hd bytes (.failedToParseCmd e)).endTransaction T
  exact ⟨_, hstep, rfl, rfl, State.sendReply_length _ _, hcells, rfl, rfl, rfl⟩

/-- Settles O30: a bare read and an accepted command end with `ok`; what is left is an error noted in the state with the
payload loaded. -/
theorem errorChangesNoCell : Obligations.ErrorChangesNoCell := by
  intro s u t T e hnext hsig hpending hstep herr
  rw [step_of_transaction hnext] at hstep
  obtain ⟨-, hparked⟩ | ⟨T, v, -, -, rfl, hv⟩ := transactionStep_next_cases hstep
  · simp [hsig, hpending] at hparked
  · have hresult : v.result = .error e := herr
    have hraise : ∃ hd bytes e', v = (u.loadCommand hd bytes).raise e' := by
      obtain rfl | ⟨hd, bytes, e', hv⟩ | ⟨hd, bytes, c, hexec⟩ := hv
      · cases hresult
      · exact ⟨hd, bytes, _, hv⟩
      · obtain ⟨e', hv⟩ | hok := exec_raise_or_ok hexec
        · exact ⟨hd, bytes, e', hv⟩
        · exact absurd (hok.symm.trans hresult) nofun
    obtain ⟨hd, bytes, e', rfl⟩ := hraise
    exact ⟨(u.sameCells_raise hd bytes e').endTransaction T, rfl⟩

end Sys2Proof.Machine
end

section
/-! PROOF. The mode commands (R130, R131) on the handler that runs them, and `ReadIoModes` on the one that does not. -/

namespace Sys2Proof.Machine

/-- Settles O14: a WriteRead runs the reply with the two mode bytes, a Write refuses the read class. -/
theorem readIoModesReplies : Obligations.ReadIoModesReplies :=
  fun _ => ⟨exec_readIoModes_of_writeRead, fun h => exec_of_read_on_write h rfl⟩

theorem exec_setIoModes_of_write (a b : Byte) {s : State} (h : s.handler = .write) :
    exec (.setIoModes a b) s = .next (s.deviceSetPinModes a b).accept :=
  congrArg Host.Outcome.next (State.writeClass_write _ _ s h)

/-- Settles O15: each group's new pulls are those of `set_pin_modes`, whose default pull is the pull-up. -/
theorem setIoModesSetsModesAndPulls : Obligations.SetIoModesSetsModesAndPulls := by
  intro a b s h
  refine ⟨(s.grp0.setPinModes a).pull, (s.grp1.setPinModes b).pull, exec_setIoModes_of_write a b h, fun i => ?_⟩
  exact ⟨s.grp0.setPinModes_pull_get a i, s.grp1.setPinModes_pull_get b i⟩

end Sys2Proof.Machine
end

section
/-! PROOF. The output commands (R140 to R142) on a Write: each drives the pins of its groups by `write_pins` (R92). -/

namespace Sys2Proof.Machine

theorem exec_writeAllOutputs_of_write (a b : Byte) {s : State} (h : s.handler = .write) :
    exec (.writeAllOutputs a b) s = .next (s.deviceWrite a b).accept :=
  congrArg Host.Outcome.next (State.writeClass_write _ _ s h)

theorem exec_writeOutputs1_of_write (v : Byte) {s : State} (h : s.handler = .write) :
    exec (.writeOutputs1 v) s = .next (s.onGrp .g0 (PinGroup.writePins v)).accept :=
  congrArg Host.Outcome.next (State.writeClass_write _ _ s h)

theorem exec_writeOutputs2_of_write (v : Byte) {s : State} (h : s.handler = .write) :
    exec (.writeOutputs2 v) s = .next (s.onGrp .g1 (PinGroup.writePins v)).accept :=
  congrArg Host.Outcome.next (State.writeClass_write _ _ s h)

/-- Settles O16: each group's new driven levels are those of `write_pins`, whatever the other group's. -/
theorem writeAllOutputsDrivesOutputs : Obligations.WriteAllOutputsDrivesOutputs := by
  intro a b s h
  refine ⟨(s.grp0.writePins a).out, (s.grp1.writePins b).out, exec_writeAllOutputs_of_write a b h, fun i => ?_⟩
  exact ⟨s.grp0.writePins_out_get a i, s.grp1.writePins_out_get b i⟩

/-- Settles O17: the new driven levels of the group written are those of `write_pins`; the other group is kept. -/
theorem singleGroupWritesDriveOutputs : Obligations.SingleGroupWritesDriveOutputs := by
  intro v s h
  refine ⟨⟨(s.grp0.writePins v).out, ?group0, s.grp0.writePins_out_get v⟩,
    ⟨(s.grp1.writePins v).out, ?group1, s.grp1.writePins_out_get v⟩⟩
  case group0 => exact exec_writeOutputs1_of_write v h
  case group1 => exact exec_writeOutputs2_of_write v h

end Sys2Proof.Machine
end

section
/-! PROOF. The input commands (R150, R151) on a WriteRead: each samples the pins of its group by `read_pins` (R93). -/

namespace Sys2Proof.Machine

/-- Settles O18: the byte is the level of group 0 under the command's draw, and the signal left is 0 (R190). -/
theorem readInputsOneReadsAndClears : Obligations.ReadInputsOneReadsAndClears :=
  fun s h => ⟨(s.readPins .g0).1, groupReads_level _ _ _, exec_readInputs1_of_writeRead h⟩

/-- Settles O19: the byte is the level of group 1 under the command's draw; the signal register is not written. -/
theorem readInputsTwoReadsOnly : Obligations.ReadInputsTwoReadsOnly :=
  fun s h => ⟨(s.readPins .g1).1, groupReads_level _ _ _, exec_readInputs2_of_writeRead h⟩

end Sys2Proof.Machine
end

section
/-! PROOF. The pull commands (R160 to R162) on a Write: each sets the pulls of both groups by `set_pin_pulls` (R94). -/

namespace Sys2Proof.Machine

theorem exec_setPullDowns_of_write (a b : Byte) {s : State} (h : s.handler = .write) :
    exec (.setPullDowns a b) s = .next (s.deviceSetPinPulls a b .down).accept :=
  congrArg Host.Outcome.next (State.writeClass_write _ _ s h)

theorem exec_setPullUps_of_write (a b : Byte) {s : State} (h : s.handler = .write) :
    exec (.setPullUps a b) s = .next (s.deviceSetPinPulls a b .up).accept :=
  congrArg Host.Outcome.next (State.writeClass_write _ _ s h)

theorem exec_setPullNone_of_write (a b : Byte) {s : State} (h : s.handler = .write) :
    exec (.setPullNone a b) s = .next (s.deviceSetPinPulls a b .none).accept :=
  congrArg Host.Outcome.next (State.writeClass_write _ _ s h)

/-- Settles O20: the three commands differ in the pull alone, and each group's new pulls are those of `set_pin_pulls`,
which does not look at the direction. -/
theorem pullCommandsSetMaskedPulls : Obligations.PullCommandsSetMaskedPulls := by
  intro a b s h cq hcq
  have hexec : exec cq.1 s = .next (s.deviceSetPinPulls a b cq.2).accept := by
    simp only [List.mem_cons, List.not_mem_nil, or_false] at hcq
    obtain rfl | rfl | rfl := hcq
    · exact exec_setPullDowns_of_write a b h
    · exact exec_setPullUps_of_write a b h
    · exact exec_setPullNone_of_write a b h
  refine ⟨(s.grp0.setPinPulls a cq.2).pull, (s.grp1.setPinPulls b cq.2).pull, hexec, fun i => ?_⟩
  exact ⟨s.grp0.setPinPulls_pull_get a cq.2 i, s.grp1.setPinPulls_pull_get b cq.2 i⟩

end Sys2Proof.Machine
end

section
/-! PROOF. The signal register (R171 to R173), the driver's turn (R175), the host's turns (R183, R207), and the environment's
on a group of outputs (R178, R211). -/

namespace Sys2Proof.Machine

/-! The signal register and the driver. -/

/-- R172: `wait` is not enabled exactly while the register is empty. -/
theorem State.wait_eq_none_iff (s : State) : s.wait = none ↔ s.sig = none := by
  unfold wait
  cases s.sig <;> simp

/-- Settles O32: `signal` and `wait` write the register alone. -/
theorem signalOverwritesAndWaitConsumes : Obligations.SignalOverwritesAndWaitConsumes :=
  fun s _ _ => ⟨rfl, rfl, rfl, s.wait_eq_none_iff⟩

/-- R188: on the empty register the driver is parked. -/
theorem State.drvStep_of_sig_none {s : State} (hsig : s.sig = none) : s.drvStep = s := by
  obtain ⟨v, hsome, -⟩ | ⟨-, hparked⟩ := s.drvStep_cases
  · exact absurd (hsig.symm.trans hsome) nofun
  · exact hparked

/-- Settles O33: the driver's turn on the full and on the empty register. -/
theorem driverDrivesSignalledLevel : Obligations.DriverDrivesSignalledLevel :=
  fun _ _ h => ⟨fun _ => step_drv_of_sig h, fun hsig =>
    (step_of_nextTurn h nofun).trans (congrArg Host.Outcome.next (State.drvStep_of_sig_none hsig))⟩

/-! The host. -/

theorem State.hostIssue_of_idle {s : State} (T : Transaction) (h : s.pending = none) :
    s.hostIssue T = { s with pending := some T } := by
  simp only [hostIssue, h]

/-- R183: the host waits for the pending transaction. -/
theorem State.hostIssue_of_pending {s : State} (T : Transaction) (h : s.pending ≠ none) : s.hostIssue T = s := by
  obtain ⟨T', hT'⟩ := Option.ne_none_iff_exists'.1 h
  simp only [hostIssue, hT']

/-- R207: after an abort nothing is pending, and the cells of the block are as before. -/
theorem State.hostAbort_frame (s : State) : s.hostAbort.pending = none ∧ s.SameCells s.hostAbort := by
  unfold hostAbort
  split
  next h => exact ⟨h, rfl, rfl, rfl, rfl⟩
  next => exact ⟨rfl, rfl, rfl, rfl, rfl⟩

/-- Settles O38: the turn performs the host's issue or abort. -/
theorem hostIssuesOneTransaction : Obligations.HostIssuesOneTransaction := by
  intro s u
  refine ⟨fun T h hidle => ?issue, fun T h hbusy => ?wait, fun h => ?abort⟩
  all_goals rw [step_of_nextTurn h nofun]
  case issue => exact congrArg Host.Outcome.next (State.hostIssue_of_idle T hidle)
  case wait => exact congrArg Host.Outcome.next (State.hostIssue_of_pending T hbusy)
  case abort => exact ⟨_, rfl, u.hostAbort_frame⟩

/-! The environment on a group of outputs. -/

/-- R17: an output pin has its driven level, whatever drives it from outside. -/
theorem definedLevel_of_output {p : PinGroup} {i : Fin 8} (hi : p.mode.getLsbD i = true) (ext : Vector Ext 8) :
    definedLevel p ext i = some (p.out.getLsbD i) :=
  if_pos hi

theorem getLsbD_allOutputs : ∀ i : Fin 8, (0xFF : Byte).getLsbD i = true := by decide

/-- R178, R211: a group whose eight pins are outputs is left as it was, whatever the environment drives. -/
theorem PinGroup.latch_env_of_outputs {p : PinGroup} (h : p.mode = 0xFF) (noise : Bool) (ext ext' : Vector Ext 8) :
    p.latch (envLatches noise p ext ext') = p := by
  have output (i : Fin 8) : p.mode.getLsbD i = true := h ▸ getLsbD_allOutputs i
  rw [envLatches_of_steady noise fun i =>
    ⟨_, definedLevel_of_output (output i) ext, definedLevel_of_output (output i) ext'⟩, latch_false]

/-- Settles O37: an environment turn joins each latch with the edges of its group, and outputs make none. -/
theorem outputsMakeNoEnvironmentEdge : Obligations.OutputsMakeNoEnvironmentEdge := by
  intro s u t e0 e1 n0 n1 h hstep
  cases (step_of_nextTurn h nofun).symm.trans hstep
  exact ⟨fun h0 => PinGroup.latch_env_of_outputs h0 n0 u.ext0 e0, fun h1 => PinGroup.latch_env_of_outputs h1 n1 u.ext1 e1⟩

/-! Totality. -/

/-- Settles O39: the step and the commands are total. -/
theorem everyStepAnswersNext : Obligations.EveryStepAnswersNext := ⟨step_total, exec_total⟩

end Sys2Proof.Machine
end

section
/-! PROOF. The edges that the block's own level changes make (R179), and what a serviced transaction leaves in the signal
register, the latches and the schedule (R183). -/

namespace Sys2Proof.Machine

/-! Level changes of a group. -/

/-- R177, R179: a pin that goes from one defined level to the other moves its group. -/
theorem movedWith_of_edge {p q : PinGroup} {ext : Vector Ext 8} {i : Fin 8} {v : Bool} (free : Byte)
    (h : definedLevel p ext i = some v) (h' : definedLevel q ext i = some !v) : movedWith free p q ext = true := by
  have hi : movedPin p q ext ext i = true := by simp [movedPin, h, h']
  exact List.any_eq_true.2 ⟨i, List.mem_finRange i, by rw [hi, Bool.true_or]⟩

/-- R179: while every pin keeps a defined level the group does not move, and no free bit is used. -/
theorem movedWith_of_steady {p q : PinGroup} {ext : Vector Ext 8} (free : Byte)
    (h : ∀ i : Fin 8, ∃ v, definedLevel p ext i = some v ∧ definedLevel q ext i = some v) :
    movedWith free p q ext = false := by
  have pin (i : Fin 8) : movedPin p q ext ext i = false ∧ blurredPin p q ext ext i = false := by
    obtain ⟨v, hv, hv'⟩ := h i
    simp [movedPin, blurredPin, hv, hv']
  simp [movedWith, pin]

/-- R179: the latch of `q` is that of `p`, joined where `SELF_INDUCED_EDGES` holds with the level change from `p` to `q`, some
free byte settling the pins that begin or cease to float. -/
def PinGroup.LatchesOwnEdges (ext : Vector Ext 8) (p q : PinGroup) : Prop :=
  ∃ free, q.ep = (p.ep || (movedWith free p q ext && Config.selfInducedEdges))

theorem PinGroup.LatchesOwnEdges.refl (ext : Vector Ext 8) (p : PinGroup) : p.LatchesOwnEdges ext p :=
  ⟨0, by rw [movedWith_self, Bool.false_and, Bool.or_false]⟩

/-- R185: a set latch stays set. -/
theorem PinGroup.LatchesOwnEdges.keeps_ep {ext : Vector Ext 8} {p q : PinGroup} (h : p.LatchesOwnEdges ext q)
    (hep : p.ep = true) : q.ep = true := by
  obtain ⟨free, hq⟩ := h
  rw [hq, hep, Bool.true_or]

/-- R179: pin-group writes that leave latch and drivers alone, followed by the latching of their edges. -/
theorem State.latchSelfInduced_latchesOwnEdges {before s : State} (g : Group) (hep : (s.grp g).ep = (before.grp g).ep)
    (hext : s.ext g = before.ext g) :
    (before.grp g).LatchesOwnEdges (before.ext g)
      ((State.latchSelfInduced Config.selfInducedEdges before s).grp g) := by
  rw [← hext]
  unfold PinGroup.LatchesOwnEdges
  rw [← hep]
  cases g <;> exact ⟨_, rfl⟩

/-- R179, R246: the glue's step latches the edges that its mode changes make. -/
theorem State.glueStep_latchesOwnEdges (s : State) (g : Group) :
    (s.grp g).LatchesOwnEdges (s.ext g) (s.glueStep.grp g) := by
  unfold glueStep
  split
  · exact .refl _ _
  next m0 m1 _ =>
    have latched := State.latchSelfInduced_latchesOwnEdges (before := s) (s := s.deviceSetPinModes m0 m1) g
      (by cases g <;> rfl) (by cases g <;> rfl)
    cases g <;> exact latched

/-! The transaction-win step. -/

/-- R171, R190: a command signals 0 or nothing. -/
theorem exec_sig {c : Instr} {s t : State} (h : exec c s = .next t) : t.sig = s.sig ∨ t.sig = some false := by
  obtain ⟨e, rfl⟩ | ⟨-, -, rfl⟩ | ⟨-, -, rfl⟩ | ⟨-, -, rfl⟩ | ⟨a, b, -, -, rfl⟩ | ⟨a, b, -, -, rfl⟩ |
    ⟨v, _ | _, -, -, rfl⟩ | ⟨a, b, q, -, -, rfl⟩ := exec_cases c s t h
  case inr.inr.inl => exact .inr rfl
  all_goals exact .inl rfl

/-- R183: what the service of a pending transaction takes `s` to: nothing is pending, no 1 is signalled, the schedule is kept,
and the latches gain the edges of the block's own making alone. -/
structure State.Serviced (s t : State) : Prop where
  enabled : s.sig = none
  found : s.pending ≠ none
  done : t.pending = none
  signalled : t.sig = none ∨ t.sig = some false
  agenda : t.agenda = s.agenda
  glue : t.glue = s.glue
  latches : ∀ g, (s.grp g).LatchesOwnEdges (s.ext g) (t.grp g)

theorem State.sendReply_grp (k : Nat) (s : State) (g : Group) : (s.sendReply k).grp g = s.grp g := by
  cases g <;> rfl

theorem State.sendReply_ext (k : Nat) (s : State) (g : Group) : (s.sendReply k).ext g = s.ext g := by
  cases g <;> rfl

/-- R183: whatever the handler leaves, the end of the transaction completes the service. -/
theorem State.Serviced.endTransaction {s v : State} {T : Transaction} (henabled : s.sig = none)
    (hfound : s.pending ≠ none) (hsig : v.sig = s.sig ∨ v.sig = some false) (hagenda : v.agenda = s.agenda)
    (hglue : v.glue = s.glue) (hep : ∀ g, (v.grp g).ep = (s.grp g).ep) (hext : ∀ g, v.ext g = s.ext g) :
    s.Serviced (State.endTransaction T s v) where
  enabled := henabled
  found := hfound
  done := rfl
  signalled := henabled ▸ hsig
  agenda := hagenda
  glue := hglue
  latches g := by
    have latched := State.latchSelfInduced_latchesOwnEdges (before := s) (s := v.sendReply T.count) g
      (by rw [sendReply_grp, hep]) (by rw [sendReply_ext, hext])
    cases g <;> exact latched

/-- R183: the transaction-win step is parked or services the pending transaction. -/
theorem transactionStep_parked_or_serviced {s t : State} (h : transactionStep s = .next t) :
    (t = s ∧ (s.sig ≠ none ∨ s.pending = none)) ∨ s.Serviced t := by
  refine (transactionStep_next_cases h).imp_right ?_
  rintro ⟨T, v, hsig, hpending, rfl, rfl | ⟨hd, bytes, e, rfl⟩ | ⟨hd, bytes, c, hexec⟩⟩
  all_goals have hfound : s.pending ≠ none := hpending ▸ nofun
  · exact .endTransaction hsig hfound (.inr rfl) rfl rfl (fun g => by cases g <;> rfl) fun g => by cases g <;> rfl
  · exact .endTransaction hsig hfound (.inl rfl) rfl rfl (fun g => by cases g <;> rfl) fun g => by cases g <;> rfl
  · obtain ⟨-, hep0, hep1, -, -, -, -, -, hext0, hext1, hglue, hagenda⟩ := exec_keeps_cells hexec
    exact .endTransaction hsig hfound (exec_sig hexec :) hagenda hglue
      (fun | .g0 => hep0 | .g1 => hep1) (fun | .g0 => hext0 | .g1 => hext1)

/-- R179, R183: serviced or parked, the transaction-win step latches the edges of the block's own making alone. -/
theorem transactionStep_latchesOwnEdges {s t : State} (h : transactionStep s = .next t) (g : Group) :
    (s.grp g).LatchesOwnEdges (s.ext g) (t.grp g) := by
  obtain ⟨rfl, -⟩ | hserved := transactionStep_parked_or_serviced h
  · exact .refl _ _
  · exact hserved.latches g

/-- R179, R246: so the transaction's turn and the glue's latch the edges of the block's own making alone. -/
theorem step_latchesOwnEdges {s t : State} (hturn : s.nextTurn.1 = .transaction ∨ s.nextTurn.1 = .glue)
    (h : step s = .next t) (g : Group) : (s.grp g).LatchesOwnEdges (s.ext g) (t.grp g) := by
  obtain ⟨agenda, draws, ⟨-, htrans⟩ | ⟨hother, rfl⟩⟩ := step_next_cases h
  · have latched := transactionStep_latchesOwnEdges htrans g
    cases g <;> exact latched
  · rw [hturn.resolve_left hother]
    have latched := State.glueStep_latchesOwnEdges { s with agenda := agenda, draws := draws } g
    cases g <;> exact latched

/-- Settles O49: the bit is the level change of the group under its free byte, which the lemmas on `movedWith` decide. -/
theorem selfInducedEdgesFollowLevelChanges : Obligations.SelfInducedEdgesFollowLevelChanges := by
  intro s t g hturn h
  obtain ⟨free, hep⟩ := step_latchesOwnEdges hturn h g
  exact ⟨movedWith free (s.grp g) (t.grp g) (s.ext g), hep, fun i ⟨v, hv, hv'⟩ => movedWith_of_edge free hv hv',
    movedWith_of_steady free, fun ⟨hmode, hout, hpull⟩ => movedWith_congr free _ _ _ hmode hout hpull⟩

end Sys2Proof.Machine
end

section
/-! PROOF. What a step may do to the pending transaction, the latches, the interrupt pin and the signal register (R176, R182,
R185). -/

namespace Sys2Proof.Machine

/-- R185, R207: a turn that services no transaction leaves a pending one, or is the abort. -/
theorem State.perform_pending {s : State} {T : Transaction} (turn : Turn) (hpending : s.pending = some T) :
    (s.perform turn).pending = some T ∨ ((s.perform turn).pending = none ∧ turn = .abort) := by
  obtain h | ⟨v, -, -, h⟩ | ⟨-, -, -, h⟩ | ⟨-, -, -, h⟩ | ⟨T', -, hnone, -⟩ | ⟨habort, -, h⟩ |
    ⟨ext0, ext1, n0, n1, -, h⟩ | ⟨m0, m1, edge0, edge1, -, -, h⟩ := s.perform_cases turn
  case inr.inr.inr.inr.inl => exact absurd (hpending.symm.trans hnone) nofun
  case inr.inr.inr.inr.inr.inl => exact .inr ⟨by rw [h], habort⟩
  all_goals exact .inl (by rw [h]; exact hpending)

/-- Settles O41: only the service takes the transaction and only the abort drops it. -/
theorem pendingTransactionNeverLost : Obligations.PendingTransactionNeverLost := by
  intro s t T hpending h
  obtain ⟨agenda, draws, ⟨hturn, htrans⟩ | ⟨-, rfl⟩⟩ := step_next_cases h
  · obtain ⟨rfl, -⟩ | hserved := transactionStep_parked_or_serviced htrans
    · exact .inl hpending
    · exact .inr ⟨hserved.done, .inl ⟨hturn, hserved.enabled⟩⟩
  · exact (State.perform_pending (s := { s with agenda := agenda, draws := draws }) s.nextTurn.1 hpending).imp_right
      (And.imp_right .inr)

/-- R181, R185: of the turns that service no transaction, only the edge-win of the group clears its latch. -/
theorem State.perform_clears_ep {s : State} {turn : Turn} {g : Group} (hset : (s.grp g).ep = true)
    (hclear : ((s.perform turn).grp g).ep = false) :
    turn = .edge g ∧ s.sig = none ∧ (s.perform turn).sig = if Config.trig g then some true else none := by
  obtain h | ⟨v, -, -, h⟩ | ⟨hturn, hsig, -, h⟩ | ⟨hturn, hsig, -, h⟩ | ⟨T, -, -, h⟩ | ⟨-, -, h⟩ |
    ⟨ext0, ext1, n0, n1, -, h⟩ | ⟨m0, m1, edge0, edge1, -, -, h⟩ := s.perform_cases turn
  case inr.inr.inl =>
    cases g with
    | g0 => exact ⟨hturn, hsig, by rw [h]; rfl⟩
    | g1 => rw [h] at hclear; exact absurd (hclear.symm.trans hset) nofun
  case inr.inr.inr.inl =>
    cases g with
    | g0 => rw [h] at hclear; exact absurd (hclear.symm.trans hset) nofun
    | g1 => exact ⟨hturn, hsig, by rw [h]; exact hsig⟩
  all_goals rw [h] at hclear; cases g <;> simp_all

/-- Settles O46: a transaction clears no latch, and of the other turns only the edge-win of the group does. -/
theorem edgeLatchClearedOnlyByEdgeWin : Obligations.EdgeLatchClearedOnlyByEdgeWin := by
  intro s t g h hset hclear
  obtain ⟨agenda, draws, ⟨-, htrans⟩ | ⟨-, rfl⟩⟩ := step_next_cases h
  · have kept := (transactionStep_latchesOwnEdges htrans g).keeps_ep (by cases g <;> exact hset)
    exact absurd (hclear.symm.trans kept) nofun
  · have cleared := State.perform_clears_ep (s := { s with agenda := agenda, draws := draws })
      (by cases g <;> exact hset) hclear
    cases g <;> exact cleared

/-- R176: of the turns that service no transaction, only the driver's writes `INT`. -/
theorem State.perform_moves_int {s : State} {turn : Turn} (hmoved : (s.perform turn).int ≠ s.int) :
    turn = .drv ∧ s.sig = some (s.perform turn).int ∧ (s.perform turn).sig = none ∧
      (s.perform turn).grp0 = s.grp0 ∧ (s.perform turn).grp1 = s.grp1 := by
  obtain h | ⟨v, hturn, hsig, h⟩ | ⟨-, -, -, h⟩ | ⟨-, -, -, h⟩ | ⟨T, -, -, h⟩ | ⟨-, -, h⟩ |
    ⟨ext0, ext1, n0, n1, -, h⟩ | ⟨m0, m1, edge0, edge1, -, -, h⟩ := s.perform_cases turn
  case inr.inl => rw [h]; exact ⟨hturn, hsig, rfl, rfl, rfl⟩
  all_goals exact absurd (by rw [h]) hmoved

/-- Settles O43: a transaction leaves `INT`, and of the other turns only the driver's writes it. -/
theorem interruptPinMovesOnlyByDriver : Obligations.InterruptPinMovesOnlyByDriver := by
  intro s t h hmoved
  obtain ⟨agenda, draws, ⟨-, htrans⟩ | ⟨-, rfl⟩⟩ := step_next_cases h
  · exact absurd (transactionStep_int htrans) hmoved
  · exact State.perform_moves_int (s := { s with agenda := agenda, draws := draws }) hmoved

/-- R182: of the turns that service no transaction, only group 0's edge-win signals 1. -/
theorem State.perform_signals_one {s : State} {turn : Turn} (hsig : (s.perform turn).sig = some true)
    (hnew : s.sig ≠ some true) : turn = .edge .g0 ∧ s.grp0.ep = true ∧ (s.perform turn).grp0.ep = false := by
  obtain h | ⟨v, -, -, h⟩ | ⟨hturn, -, hep, h⟩ | ⟨-, -, -, h⟩ | ⟨T, -, -, h⟩ | ⟨-, -, h⟩ |
    ⟨ext0, ext1, n0, n1, -, h⟩ | ⟨m0, m1, edge0, edge1, -, -, h⟩ := s.perform_cases turn
  case inr.inl => rw [h] at hsig; cases hsig
  case inr.inr.inl => exact ⟨hturn, hep, by rw [h]⟩
  all_goals rw [h] at hsig; exact absurd hsig hnew

/-- Settles O47: a transaction signals 0 or nothing, and of the other turns only group 0's edge-win signals 1. -/
theorem interruptAssertedOnlyByGroupZero : Obligations.InterruptAssertedOnlyByGroupZero := by
  intro s t h hsig hnew
  obtain ⟨agenda, draws, ⟨-, htrans⟩ | ⟨-, rfl⟩⟩ := step_next_cases h
  · obtain ⟨rfl, -⟩ | hserved := transactionStep_parked_or_serviced htrans
    · exact absurd hsig hnew
    · obtain hnone | hzero := hserved.signalled
      · exact absurd (hnone.symm.trans hsig) nofun
      · exact absurd (hzero.symm.trans hsig) nofun
  · exact State.perform_signals_one (s := { s with agenda := agenda, draws := draws }) hsig hnew

end Sys2Proof.Machine
end

section
/-! PROOF. The block on its own (R180, R188, R191): the turn it takes while nothing outside moves, and the work that each such
turn leaves. -/

namespace Sys2Proof.Machine

/-! The turn of a block on its own. -/

/-- R184: the edge wait resolved is that of a latched group, if one is. -/
theorem State.edgeChoice_latched {s : State} (h : s.grp0.ep = true ∨ s.grp1.ep = true) :
    ∃ g, s.edgeChoice = .edge g ∧ (s.grp g).ep = true := by
  unfold edgeChoice
  split
  next hboth =>
    obtain ⟨h0, h1⟩ := Bool.and_eq_true_iff.1 hboth
    split
    · exact ⟨.g0, rfl, h0⟩
    · exact ⟨.g1, rfl, h1⟩
  next =>
    split
    next h0 => exact ⟨.g0, rfl, h0⟩
    next h0 => exact ⟨.g1, rfl, h.resolve_left h0⟩

/-- R180, R188: with nothing signalled the block services the pending transaction, resolves the edge of a latched group, or has
nothing to do. -/
theorem State.ownTurn_of_sig_none {s : State} (hsig : s.sig = none) :
    (s.ownTurn = .transaction ∧ s.pending ≠ none) ∨
    (∃ g, s.ownTurn = .edge g ∧ (s.grp g).ep = true) ∨
    (s.ownTurn = .idle ∧ s.pending = none ∧ s.grp0.ep = false ∧ s.grp1.ep = false) := by
  cases hlatched : s.grp0.ep || s.grp1.ep with
  | false =>
    obtain ⟨h0, h1⟩ := Bool.or_eq_false_iff.1 hlatched
    cases hpending : s.pending with
    | none => exact .inr (.inr ⟨by simp [ownTurn, hsig, hpending, h0, h1], rfl, h0, h1⟩)
    | some T => exact .inl ⟨by simp [ownTurn, hsig, hpending, h0, h1], nofun⟩
  | true =>
    obtain ⟨g, hchoice, hep⟩ := State.edgeChoice_latched (Bool.or_eq_true_iff.1 hlatched)
    cases hpending : s.pending with
    | none => exact .inr (.inl ⟨g, by simp [ownTurn, hsig, hpending, hlatched, hchoice], hep⟩)
    | some T =>
      have hturn : s.ownTurn = if (Config.freeByte s.draws).getLsbD 1 then .transaction else .edge g := by
        simp [ownTurn, hsig, hpending, hlatched, hchoice]
      split at hturn
      · exact .inl ⟨hturn, nofun⟩
      · exact .inr (.inl ⟨g, hturn, hep⟩)

/-- R180: with the agenda empty and the glue done the block's own turn comes next, and draws a free byte. -/
theorem State.nextTurn_of_ownTurn {s : State} {turn : Turn} (hglue : s.glue = none) (hagenda : s.agenda = [])
    (hturn : s.ownTurn = turn) (hbusy : turn ≠ .idle) : s.nextTurn = (turn, { s with draws := s.draws + 1 }) := by
  simp only [State.nextTurn, hglue, hagenda, hturn]

/-- R188: or every agent is parked, and nothing is drawn. -/
theorem State.nextTurn_of_idle {s : State} (hglue : s.glue = none) (hagenda : s.agenda = [])
    (hturn : s.ownTurn = .idle) : s.nextTurn = (.idle, s) := by
  simp only [State.nextTurn, hglue, hagenda, hturn]

/-! The step of a block on its own. -/

/-- R183: the draw counter is no matter to the service. -/
theorem State.Serviced.of_draws {s t : State} {draws : Nat} (h : State.Serviced { s with draws := draws } t) :
    s.Serviced t where
  enabled := h.enabled
  found := h.found
  done := h.done
  signalled := h.signalled
  agenda := h.agenda
  glue := h.glue
  latches g := by
    have latched := h.latches g
    cases g <;> exact latched

/-- R181, R182: what resolving the edge of group `g` takes `s` to: its latch is clear, and a 1 is signalled where edges
trigger. -/
structure State.EdgeResolved (g : Group) (s t : State) : Prop where
  enabled : s.sig = none
  latched : (s.grp g).ep = true
  cleared : (t.grp g).ep = false
  signalled : t.sig = if Config.trig g then some true else none
  others : ∀ g', g' ≠ g → t.grp g' = s.grp g'
  pending : t.pending = s.pending
  agenda : t.agenda = s.agenda
  glue : t.glue = s.glue

/-- R181, R182: the enabled edge-win turn of a latched group resolves its edge. -/
theorem step_edge_of_latched {s : State} {g : Group} {draws : Nat}
    (h : s.nextTurn = (.edge g, { s with draws := draws })) (hsig : s.sig = none) (hep : (s.grp g).ep = true) :
    ∃ t, step s = .next t ∧ s.EdgeResolved g t := by
  obtain ⟨group0, group1, -⟩ := edgeWinSignalsGroupZeroOnly s { s with draws := draws }
  cases g with
  | g0 =>
    exact ⟨_, group0 h hsig hep, hsig, hep, rfl, rfl, fun | .g0, hne => absurd rfl hne | .g1, _ => rfl, rfl, rfl, rfl⟩
  | g1 =>
    exact ⟨_, group1 h hsig hep, hsig, hep, rfl, hsig, fun | .g0, _ => rfl | .g1, hne => absurd rfl hne, rfl, rfl, rfl⟩

/-- R180, R186, R246: while nothing outside moves, a step applies the deployment default, drives the signalled level, services the
pending transaction, resolves an edge, or finds nothing to do. -/
theorem step_alone_cases {s : State} (hagenda : s.agenda = []) :
    ∃ t, step s = .next t ∧ t.agenda = [] ∧
      ((s.glue ≠ none ∧ t.glue = none ∧ t.sig = s.sig ∧ t.pending = s.pending) ∨
       (s.glue = none ∧ ∃ v, s.sig = some v ∧ t = { s with draws := s.draws + 1, sig := none, int := v }) ∨
       (s.glue = none ∧ s.Serviced t) ∨
       (s.glue = none ∧ ∃ g, s.EdgeResolved g t) ∨
       (s.Quiet ∧ t = s)) := by
  cases hglue : s.glue with
  | some m =>
    obtain ⟨t, hstep, hdone, hagenda', hpending, hsig, -⟩ := deploymentDefaultComesFirst s m.1 m.2 hglue
    exact ⟨t, hstep, hagenda'.trans hagenda, .inl ⟨nofun, hdone, hsig, hpending⟩⟩
  | none =>
    cases hsig : s.sig with
    | some v =>
      exact ⟨_, step_drv_of_sig (State.nextTurn_of_sig hglue hagenda hsig) hsig, hagenda,
        .inr (.inl ⟨rfl, v, rfl, by rw [hglue]⟩)⟩
    | none =>
      obtain ⟨hturn, hpending⟩ | ⟨g, hturn, hep⟩ | ⟨hturn, hpending, h0, h1⟩ := State.ownTurn_of_sig_none hsig
      · have hnext := State.nextTurn_of_ownTurn hglue hagenda hturn nofun
        obtain ⟨t, htrans⟩ := transactionStep_total { s with draws := s.draws + 1 }
        obtain ⟨-, hparked⟩ | hserved := transactionStep_parked_or_serviced htrans
        · exact absurd hparked (not_or.2 ⟨not_not.2 hsig, hpending⟩)
        · exact ⟨t, (step_of_transaction hnext).trans htrans, hserved.agenda.trans hagenda,
            .inr (.inr (.inl ⟨rfl, hserved.of_draws⟩))⟩
      · have hnext := State.nextTurn_of_ownTurn hglue hagenda hturn nofun
        obtain ⟨t, hstep, hresolved⟩ := step_edge_of_latched hnext hsig hep
        exact ⟨t, hstep, hresolved.agenda.trans hagenda, .inr (.inr (.inr (.inl ⟨rfl, g, hresolved⟩)))⟩
      · exact ⟨s, step_of_nextTurn (State.nextTurn_of_idle hglue hagenda hturn) nofun, hagenda,
          .inr (.inr (.inr (.inr ⟨⟨hsig, h0, h1, hpending, hglue⟩, rfl⟩)))⟩

/-! A latched edge on its way to the interrupt pin. -/

/-- R191, R212: with nothing pending or signalled, a block on its own with an edge latched in group 0 resolves an edge. -/
theorem step_alone_resolves_edge {s : State} (hagenda : s.agenda = []) (hglue : s.glue = none)
    (hpending : s.pending = none) (hsig : s.sig = none) (hep : s.grp0.ep = true) :
    ∃ g t, step s = .next t ∧ t.agenda = [] ∧ s.EdgeResolved g t := by
  obtain ⟨t, hstep, hagenda', ⟨hdefault, -⟩ | ⟨-, v, hfull, -⟩ | ⟨-, hserved⟩ | ⟨-, g, hresolved⟩ |
    ⟨⟨-, hclear, -⟩, -⟩⟩ := step_alone_cases hagenda
  · exact absurd hglue hdefault
  · exact absurd (hsig.symm.trans hfull) nofun
  · exact absurd hpending hserved.found
  · exact ⟨g, t, hstep, hagenda', hresolved⟩
  · exact absurd (hclear.symm.trans hep) nofun

/-- R182, R191: if group 1 has no edge, the level is on the pin after two steps. -/
theorem run_two_of_latched_alone {s : State} (hagenda : s.agenda = []) (hglue : s.glue = none)
    (hpending : s.pending = none) (hsig : s.sig = none) (hep : s.grp0.ep = true) (hep1 : s.grp1.ep = false) :
    ∃ t, Host.Core.run core 2 s = .next t ∧ t.int = true := by
  obtain ⟨g, t, hstep, hagenda', hresolved⟩ := step_alone_resolves_edge hagenda hglue hpending hsig hep
  cases g with
  | g0 =>
    have hnext := State.nextTurn_of_sig (hresolved.glue.trans hglue) hagenda' hresolved.signalled
    exact ⟨_, (run_succ 1 _ _ hstep).trans (run_succ 0 _ _ (step_drv_of_sig hnext hresolved.signalled)), rfl⟩
  | g1 => exact absurd (hep1.symm.trans hresolved.latched) nofun

/-- Settles O55: the first step resolves group 0's edge, and two steps drive the level, or group 1's, which leaves group 0's
alone. -/
theorem latchedEdgeReachesPin : Obligations.LatchedEdgeReachesPin := by
  intro s hagenda hglue hpending hsig hep
  obtain ⟨g, t, hstep, hagenda', hresolved⟩ := step_alone_resolves_edge hagenda hglue hpending hsig hep
  rw [run_succ 2 _ _ hstep]
  cases g with
  | g0 => exact run_two_drives_sig hagenda' hresolved.signalled
  | g1 =>
    have hkept : t.grp0.ep = true := (congrArg PinGroup.ep (hresolved.others .g0 nofun)).trans hep
    exact run_two_of_latched_alone hagenda' (hresolved.glue.trans hglue) (hresolved.pending.trans hpending)
      hresolved.signalled hkept hresolved.cleared

/-! The work a block has left. -/

/-- R188, R191: a bound on the steps to quiet. A signalled level takes one step; an edge of group 0 two, since it is signalled,
one of group 1 one; a transaction five, since it may signal and latch both groups; the deployment default four, since it may
latch both groups, whatever is latched before it. -/
def State.work (s : State) : Nat :=
  s.sig.isSome.toNat + 5 * s.pending.isSome.toNat +
    if s.glue.isSome then 4 else 2 * s.grp0.ep.toNat + s.grp1.ep.toNat

theorem State.work_of_glue {s : State} (h : s.glue ≠ none) :
    s.work = s.sig.isSome.toNat + 5 * s.pending.isSome.toNat + 4 := by
  simp [work, Option.isSome_iff_ne_none, h]

theorem State.work_of_no_glue {s : State} (h : s.glue = none) :
    s.work = s.sig.isSome.toNat + 5 * s.pending.isSome.toNat + (2 * s.grp0.ep.toNat + s.grp1.ep.toNat) := by
  simp [work, h]

theorem State.work_le_ten (s : State) : s.work ≤ 10 := by
  have := Bool.toNat_le s.sig.isSome
  have := Bool.toNat_le s.pending.isSome
  have := Bool.toNat_le s.grp0.ep
  have := Bool.toNat_le s.grp1.ep
  unfold work
  split <;> omega

theorem State.Quiet.work_eq_zero {s : State} (h : s.Quiet) : s.work = 0 := by
  obtain ⟨hsig, h0, h1, hpending, hglue⟩ := h
  simp [work, hsig, h0, h1, hpending, hglue]

/-- R181: resolving an edge takes a step's work away: for group 0 it leaves the signal to drive. -/
theorem State.EdgeResolved.work_lt {s t : State} {g : Group} (h : s.EdgeResolved g t) (hglue : s.glue = none) :
    t.work < s.work := by
  rw [work_of_no_glue hglue, work_of_no_glue (h.glue.trans hglue), h.pending]
  have hlatched : (s.grp g).ep.toNat = 1 := congrArg Bool.toNat h.latched
  have hcleared : (t.grp g).ep.toNat = 0 := congrArg Bool.toNat h.cleared
  cases g with
  | g0 =>
    have hother : t.grp1 = s.grp1 := h.others .g1 nofun
    have hsig : t.sig.isSome.toNat = 1 := congrArg (·.isSome.toNat) h.signalled
    rw [State.grp_g0] at hlatched hcleared
    rw [hother]
    omega
  | g1 =>
    have hother : t.grp0 = s.grp0 := h.others .g0 nofun
    have hsig : t.sig.isSome.toNat = 0 := congrArg (·.isSome.toNat) h.signalled
    rw [State.grp_g1] at hlatched hcleared
    rw [hother]
    omega

/-- R183: a service leaves at most a signal and an edge in each group. -/
theorem State.Serviced.work_lt {s t : State} (h : s.Serviced t) (hglue : s.glue = none) : t.work < s.work := by
  have := Bool.toNat_le t.sig.isSome
  have := Bool.toNat_le t.grp0.ep
  have := Bool.toNat_le t.grp1.ep
  have hfound : s.pending.isSome.toNat = 1 := by simp [Option.isSome_iff_ne_none.2 h.found]
  have hdone : t.pending.isSome.toNat = 0 := by simp [h.done]
  rw [work_of_no_glue hglue, work_of_no_glue (h.glue.trans hglue)]
  omega

/-- R188, R191: while nothing outside moves, every step takes work away, or the block is quiet and stands still. -/
theorem step_alone_lowers_work {s : State} (hagenda : s.agenda = []) :
    ∃ t, step s = .next t ∧ t.agenda = [] ∧ (t.work < s.work ∨ (s.Quiet ∧ t = s)) := by
  obtain ⟨t, hstep, hagenda', hcase⟩ := step_alone_cases hagenda
  refine ⟨t, hstep, hagenda', ?_⟩
  obtain ⟨hglue, hdone, hsig, hpending⟩ | ⟨hglue, v, hsig, rfl⟩ | ⟨hglue, hserved⟩ | ⟨hglue, g, hresolved⟩ | hquiet := hcase
  · have := Bool.toNat_le t.grp0.ep
    have := Bool.toNat_le t.grp1.ep
    rw [State.work_of_glue hglue, State.work_of_no_glue hdone, hsig, hpending]
    omega
  · exact .inl (by simp [State.work, hsig])
  · exact .inl (hserved.work_lt hglue)
  · exact .inl (hresolved.work_lt hglue)
  · exact .inr hquiet

/-- R188, R191: so a block on its own is quiet after as many steps as it has work, and stays so. -/
theorem run_alone_quiet (n : Nat) {s : State} (hagenda : s.agenda = []) (hwork : s.work ≤ n) :
    ∃ t, Host.Core.run core n s = .next t ∧ t.Quiet ∧ step t = .next t := by
  induction n generalizing s with
  | zero =>
    obtain ⟨t, hstep, -, hless | ⟨hquiet, rfl⟩⟩ := step_alone_lowers_work hagenda
    · omega
    · exact ⟨t, rfl, hquiet, hstep⟩
  | succ n ih =>
    obtain ⟨t, hstep, hagenda', hcase⟩ := step_alone_lowers_work hagenda
    have hless : t.work ≤ n := by
      obtain hless | ⟨hquiet, rfl⟩ := hcase
      · omega
      · exact hquiet.work_eq_zero ▸ n.zero_le
    rw [run_succ n s t hstep]
    exact ih hagenda' hless

/-- Settles O56: a block has at most ten steps of work. -/
theorem quietWorldDrains : Obligations.QuietWorldDrains :=
  fun s hagenda => run_alone_quiet 10 hagenda s.work_le_ten

end Sys2Proof.Machine
end

section
/-! PROOF. What the handler of each kind of transaction leaves, with the payload that it decoded (R116 to R121, R204). -/

namespace Sys2Proof.Machine

/-- R116: the transaction `T` hands `bytes` to the handler `hd`. -/
def Transaction.Carries (T : Transaction) (hd : Handler) (bytes : List Byte) : Prop :=
  (hd = .write ∧ T = .write bytes) ∨ (hd = .writeRead ∧ ∃ k, T = .writeRead bytes k)

/-- R117, R119, R121, R204: `v` is what the handler of the transaction `T` leaves of `s`. -/
inductive State.Handled (s : State) : Transaction → State → Prop where
  | read (k : Nat) : s.Handled (.read k) s.busRead
  | undecoded {T : Transaction} {hd : Handler} {bytes : List Byte} {e : DecodeError} (carries : T.Carries hd bytes)
      (hdec : decode bytes = .error e) : s.Handled T ((s.loadCommand hd bytes).raise (.failedToParseCmd e))
  | command {T : Transaction} {hd : Handler} {bytes : List Byte} {c : Instr} {v : State} (carries : T.Carries hd bytes)
      (hdec : decode bytes = .ok c) (hexec : exec c (s.loadCommand hd bytes) = .next v) : s.Handled T v

/-- R183: the transaction-win step is parked, or ends the pending transaction after its handler. -/
theorem transactionStep_parked_or_handled {s t : State} (h : transactionStep s = .next t) :
    (t = s ∧ (s.sig ≠ none ∨ s.pending = none)) ∨
    ∃ T v, s.sig = none ∧ s.pending = some T ∧ s.Handled T v ∧ t = State.endTransaction T s v := by
  obtain ⟨hstep, hparked⟩ | ⟨k, hsig, hpending, hstep⟩ |
    ⟨T, hd, bytes, hsig, hpending, carries, ⟨e, hdec, hstep⟩ | ⟨c, hdec, hstep⟩⟩ := transactionStep_cases s
  · cases hstep.symm.trans h
    exact .inl ⟨rfl, hparked⟩
  · cases hstep.symm.trans h
    exact .inr ⟨_, _, hsig, hpending, .read k, rfl⟩
  · cases hstep.symm.trans h
    rw [decode_captureBytes] at hdec
    exact .inr ⟨_, _, hsig, hpending, .undecoded carries hdec, rfl⟩
  · obtain ⟨v, hexec⟩ := exec_total c (s.loadCommand hd bytes)
    rw [hstep, hexec] at h
    cases h
    rw [decode_captureBytes] at hdec
    exact .inr ⟨_, v, hsig, hpending, .command carries hdec hexec, rfl⟩

end Sys2Proof.Machine
end

section
/-! PROOF. The two reads that clear the interrupt (R213): no other handler, and no other turn, signals 0. -/

namespace Sys2Proof.Machine

/-- R150, R190: of the commands only `ReadInputs1` signals 0, and only on the handler that runs it. -/
theorem exec_signals_zero {c : Instr} {s t : State} (h : exec c s = .next t) (hzero : t.sig = some false)
    (hnew : s.sig ≠ some false) : c = .readInputs1 ∧ s.handler = .writeRead := by
  obtain ⟨e, rfl⟩ | ⟨-, -, rfl⟩ | ⟨hc, hhd, -⟩ | ⟨-, -, rfl⟩ | ⟨a, b, -, -, rfl⟩ | ⟨a, b, -, -, rfl⟩ |
    ⟨v, _ | _, -, -, rfl⟩ | ⟨a, b, q, -, -, rfl⟩ := exec_cases c s t h
  case inr.inr.inl => exact ⟨hc, hhd⟩
  all_goals exact absurd hzero hnew

/-- R121, R150: a handler that signals 0 is the bare read's, or runs `ReadInputs1` for a WriteRead. -/
theorem State.Handled.signals_zero {s v : State} {T : Transaction} (h : s.Handled T v) (hzero : v.sig = some false)
    (hnew : s.sig ≠ some false) :
    (∃ k, T = .read k) ∨ ∃ bytes k, T = .writeRead bytes k ∧ decode bytes = .ok .readInputs1 := by
  cases h with
  | read k => exact .inl ⟨k, rfl⟩
  | undecoded carries hdec => exact absurd hzero hnew
  | command carries hdec hexec =>
    obtain ⟨rfl, hhd⟩ := exec_signals_zero hexec hzero hnew
    obtain ⟨hwrite, -⟩ | ⟨-, k, hT⟩ := carries
    · exact absurd (hwrite.symm.trans hhd) nofun
    · exact .inr ⟨_, k, hT, hdec⟩

/-- R182: no turn but a transaction's signals 0. -/
theorem State.perform_signals_no_zero {s : State} (turn : Turn) (hnew : s.sig ≠ some false) :
    (s.perform turn).sig ≠ some false := by
  obtain h | ⟨v, -, -, h⟩ | ⟨-, -, -, h⟩ | ⟨-, -, -, h⟩ | ⟨T, -, -, h⟩ | ⟨-, -, h⟩ | ⟨ext0, ext1, n0, n1, -, h⟩ |
    ⟨m0, m1, edge0, edge1, -, -, h⟩ := s.perform_cases turn
  case inr.inl | inr.inr.inl => rw [h]; exact nofun
  all_goals rw [h]; exact hnew

/-- Settles O48: no other turn signals 0, and the end of a transaction keeps what its handler signalled. -/
theorem interruptClearedOnlyByTwoReads : Obligations.InterruptClearedOnlyByTwoReads := by
  intro s t h hzero hnew
  obtain ⟨agenda, draws, ⟨hturn, htrans⟩ | ⟨-, rfl⟩⟩ := step_next_cases h
  · obtain ⟨rfl, -⟩ | ⟨T, v, -, hpending, handled, rfl⟩ := transactionStep_parked_or_handled htrans
    · exact absurd hzero hnew
    · have found : s.pending = some T := hpending
      have cause := handled.signals_zero hzero hnew
      exact ⟨hturn, rfl, by simpa [found] using cause⟩
  · exact absurd hzero (State.perform_signals_no_zero (s := { s with agenda := agenda, draws := draws }) _ hnew)

end Sys2Proof.Machine
end

section
/-! PROOF. The causes of the errors (R204 to R206, R209): the result of a transaction as a function of it alone, and what each
error says of it. -/

namespace Sys2Proof.Machine

/-- R117 to R120, R204 to R206: the result of the handler `hd` on what its payload decodes to. -/
def Handler.result (hd : Handler) : Except DecodeError Instr → TxResult
  | .error e => .error (.failedToParseCmd e)
  | .ok c =>
    match hd with
    | .write => if c.replyLength.isSome then .error (.invalidWriteCmd c) else .ok
    | .writeRead => if c.replyLength.isSome then .ok else .error (.invalidWriteReadCmd c)

/-- R116, R121: the result of a transaction; a bare read cannot fail. -/
def Transaction.result : Transaction → TxResult
  | .write bytes => Handler.write.result (decode bytes)
  | .writeRead bytes _ => Handler.writeRead.result (decode bytes)
  | .read _ => .ok

/-- R205, R206: a command ends as its class and the handler say. -/
theorem exec_result {c : Instr} {s t : State} (h : exec c s = .next t) : t.result = s.handler.result (.ok c) := by
  obtain ⟨hread, run, hrun⟩ | ⟨hwrite, run, hrun⟩ := exec_class c
  · cases (hrun s).symm.trans h
    obtain ⟨hhd, heq⟩ | ⟨hhd, heq⟩ := s.readClass_cases c run
    all_goals rw [heq, hhd, Handler.result, if_pos hread]; rfl
  · have hno : ¬ c.replyLength.isSome := by simpa using hwrite
    cases (hrun s).symm.trans h
    obtain ⟨hhd, heq⟩ | ⟨hhd, heq⟩ := s.writeClass_cases c run
    all_goals rw [heq, hhd, Handler.result, if_neg hno]; rfl

theorem Transaction.Carries.result_eq {T : Transaction} {hd : Handler} {bytes : List Byte} (h : T.Carries hd bytes) :
    T.result = hd.result (decode bytes) := by
  obtain ⟨rfl, rfl⟩ | ⟨rfl, k, rfl⟩ := h <;> rfl

/-- R123: the result of a serviced transaction depends on the transaction alone. -/
theorem State.Handled.result_eq {s v : State} {T : Transaction} (h : s.Handled T v) : v.result = T.result := by
  cases h with
  | read k => rfl
  | undecoded carries hdec => rw [carries.result_eq, hdec]; rfl
  | command carries hdec hexec => rw [carries.result_eq, hdec]; exact exec_result hexec

theorem step_result {s u v : State} {T : Transaction} (hnext : s.nextTurn = (.transaction, u)) (hsig : u.sig = none)
    (hpending : u.pending = some T) (h : step s = .next v) : v.result = T.result := by
  rw [step_of_transaction hnext] at h
  obtain ⟨-, hparked⟩ | ⟨T', w, -, hpending', handled, rfl⟩ := transactionStep_parked_or_handled h
  · exact absurd hparked (by simp [hsig, hpending])
  · cases hpending.symm.trans hpending'
    exact handled.result_eq

/-- R204: either handler ends so exactly on a payload that does not decode. -/
theorem Handler.result_eq_failedToParseCmd_iff {hd : Handler} {d : Except DecodeError Instr} {e : DecodeError} :
    hd.result d = .error (.failedToParseCmd e) ↔ d = .error e := by
  cases d with
  | error e' => simp [result]
  | ok c => cases hd <;> grind [result]

/-- R205: only a Write ends so, on a command of the read class. -/
theorem Handler.result_eq_invalidWriteCmd_iff {hd : Handler} {d : Except DecodeError Instr} {c : Instr} :
    hd.result d = .error (.invalidWriteCmd c) ↔ hd = .write ∧ d = .ok c ∧ c.replyLength.isSome := by
  cases d with
  | error e => simp [result]
  | ok c' =>
    cases hd with
    | write => grind [result]
    | writeRead => grind [result]

/-- R206: only a WriteRead ends so, on a command of the write class. -/
theorem Handler.result_eq_invalidWriteReadCmd_iff {hd : Handler} {d : Except DecodeError Instr} {c : Instr} :
    hd.result d = .error (.invalidWriteReadCmd c) ↔ hd = .writeRead ∧ d = .ok c ∧ c.replyLength.isNone := by
  cases d with
  | error e => simp [result]
  | ok c' =>
    cases hd with
    | write => grind [result]
    | writeRead => grind [result, Option.not_isSome]

theorem mem_readClass_iff (c : Instr) :
    c ∈ [Instr.readIoModes, .readInputs1, .readInputs2] ↔ c.replyLength.isSome := by
  simp [replyLength_isSome_iff]

theorem opcode_mem_writeClass_iff (c : Instr) :
    c.opcode ∈ ([0x02, 0x03, 0x11, 0x12, 0x30, 0x31, 0x32] : List Byte) ↔ c.replyLength.isNone := by
  cases c <;> simp [Instr.opcode, Instr.replyLength]

/-- Settles O29: the result is the handler's on what the payload decodes to, and each error tells its cause. -/
theorem errorsHaveExactlyTheirCauses : Obligations.ErrorsHaveExactlyTheirCauses := by
  intro s u v T hnext hsig hpending hstep
  simp only [step_result hnext hsig hpending hstep, mem_readClass_iff, opcode_mem_writeClass_iff]
  cases T with
  | read k => simp [Transaction.result]
  | write bytes | writeRead bytes k =>
    simp [Transaction.result, Handler.result_eq_failedToParseCmd_iff, Handler.result_eq_invalidWriteCmd_iff,
      Handler.result_eq_invalidWriteReadCmd_iff]

end Sys2Proof.Machine
end

section
/-! PROOF. The first bus reads after reset with nothing connected, without and with a deployment default (R243, R246): an input
shows its pull-up, an output `OUT_RESET`. -/

namespace Sys2Proof.Machine

/-! The level of a group that nothing drives. -/

/-- R16, R17: where nothing drives the pins and the inputs are pulled up, a read finds 1 on the inputs and the driven level on
the outputs. -/
theorem getLsbD_of_pulledUp {p : PinGroup} {b : Byte} {i : Fin 8} (hread : GroupReads p (Vector.replicate 8 .z) b)
    (hup : p.mode.getLsbD i = false → p.pull[i] = .up) :
    b.getLsbD i = if p.mode.getLsbD i then p.out.getLsbD i else true := by
  rw [← (pinReads_iff p _ i _).1 (hread i)]
  cases hi : p.mode.getLsbD i with
  | true => rfl
  | false => simp [sampledBit, hup hi]

/-- R27, R243: a group in its reset state reads 1 on every pin. -/
theorem eq_ones_of_reset {g : Group} {b : Byte} (hread : GroupReads (PinGroup.reset g) (Vector.replicate 8 .z) b) :
    b = 0xFF :=
  byte_eq_of_pins fun i => by
    have input : (PinGroup.reset g).mode.getLsbD i = false := BitVec.getLsbD_zero
    rw [getLsbD_of_pulledUp hread fun _ => PinGroup.reset_pull g i, input, getLsbD_allOutputs]
    rfl

/-- R90, R246: a group whose modes were set once since reset reads 1 on its inputs and `OUT_RESET` on its outputs. -/
theorem getLsbD_of_reset_setPinModes {g : Group} {m b : Byte} {p : PinGroup}
    (hconfig : ((PinGroup.reset g).setPinModes m).SameConfig p) (hread : GroupReads p (Vector.replicate 8 .z) b)
    (i : Fin 8) : b.getLsbD i = if m.getLsbD i then (Config.outReset g).getLsbD i else true := by
  obtain ⟨rfl, hout, hpull⟩ : p.mode = m ∧ p.out = Config.outReset g ∧ _ := hconfig
  rw [← hout]
  refine getLsbD_of_pulledUp hread fun _ => ?_
  rw [hpull, PinGroup.setPinModes_pull_get, PinGroup.reset_pull, ite_self]

/-! The steps. -/

theorem run_two_of_steps {s u t : State} (hfirst : step s = .next u) (hsecond : step u = .next t) :
    Host.Core.run core 2 s = .next t :=
  (run_succ 1 _ _ hfirst).trans (run_succ 0 _ _ hsecond)

/-- R246: the glue's step leaves the signal register, the pending transaction and the drivers alone, so a transaction turn that
the agenda holds comes next and finds the default's configuration. -/
theorem step_glue_before_transaction {s : State} {m0 m1 : Byte} {rest : List Turn} (hglue : s.glue = some (m0, m1))
    (hagenda : s.agenda = .transaction :: rest) :
    ∃ w u, step s = .next w ∧ w.nextTurn = (.transaction, u) ∧ u.sig = s.sig ∧ u.pending = s.pending ∧
      u.ext0 = s.ext0 ∧ u.ext1 = s.ext1 ∧ (s.grp0.setPinModes m0).SameConfig u.grp0 ∧
      (s.grp1.setPinModes m1).SameConfig u.grp1 := by
  have hstep : step s = .next s.glueStep := step_of_nextTurn (State.nextTurn_of_glue hglue) nofun
  rw [State.glueStep_some s m0 m1 hglue] at hstep
  exact ⟨_, _, hstep, State.nextTurn_of_agenda rfl hagenda, rfl, rfl, rfl, rfl, PinGroup.sameConfig_latch _ _,
    PinGroup.sameConfig_latch _ _⟩

/-- R122: a reply of two bytes is given by its first two. -/
theorem reply_eq_of_take_two {reply : List Byte} {a b : Byte} (hlen : reply.length = 2)
    (htake : reply.take 2 = [a, b].take 2) : reply = [a, b] := by
  rwa [List.take_of_length_le hlen.le] at htake

/-- Settles O52: the block's own turn is the transaction's, and the bare read finds both groups as reset left them. -/
theorem resetBusReadGivesOnes : Obligations.ResetBusReadGivesOnes := by
  obtain ⟨t, b0, b1, hstep, -, -, hsig, -, -, -, hlen, hreply, hread0, hread1⟩ :=
    busReadReadsBothAndClears { State.reset with glue := none, pending := some (.read 2) } _ 2 rfl rfl rfl
  obtain rfl := eq_ones_of_reset hread0
  obtain rfl := eq_ones_of_reset hread1
  exact ⟨t, hstep, reply_eq_of_take_two hlen hreply, hsig⟩

/-- Settles O53: after the glue's step, `ReadIoModes` finds the modes set, and the bare read the groups configured so. -/
theorem deployedResetReadsBack : Obligations.DeployedResetReadsBack := by
  refine fun m0 m1 => ⟨?modes, ?levels⟩
  case modes =>
    obtain ⟨w, u, hglue, hnext, hsig, hpending, -, -, ⟨hmode0, -⟩, ⟨hmode1, -⟩⟩ :=
      step_glue_before_transaction (s := { State.reset with
        glue := some (m0, m1), pending := some (.writeRead [0x01] 2), agenda := [.transaction] }) rfl rfl
    obtain ⟨t, hstep, -, -, hlen, hreply, -⟩ := hostReadsModes w u [] 2 hnext hsig hpending
    rw [hmode0, hmode1] at hreply
    exact ⟨t, run_two_of_steps hglue hstep, reply_eq_of_take_two hlen hreply⟩
  case levels =>
    obtain ⟨w, u, hglue, hnext, hsig, hpending, hext0, hext1, hconfig0, hconfig1⟩ :=
      step_glue_before_transaction (s := { State.reset with
        glue := some (m0, m1), pending := some (.read 2), agenda := [.transaction] }) rfl rfl
    obtain ⟨t, b0, b1, hstep, -, -, -, -, -, -, hlen, hreply, hread0, hread1⟩ :=
      busReadReadsBothAndClears w u 2 hnext hsig hpending
    rw [hext0] at hread0
    rw [hext1] at hread1
    exact ⟨t, b0, b1, run_two_of_steps hglue hstep, reply_eq_of_take_two hlen hreply, fun i =>
      ⟨getLsbD_of_reset_setPinModes hconfig0 hread0 i, getLsbD_of_reset_setPinModes hconfig1 hread1 i⟩⟩

end Sys2Proof.Machine
end
